-- ==== Sys2Proof/Word.lean ====
section
/-! DEFINITION. The data types of 00_scope.md R10: bytes, words, blocks, keys, schedules, registers. -/

namespace Sys2Proof

/-- A Byte of R10. -/
abbrev Byte := BitVec 8

/-- A Reg32 of R10, the value of one register or of the data bus. -/
abbrev Reg32 := BitVec 32

/-- Four things in order, the first one `q0`. -/
@[ext]
structure Quad (α : Type) where
  q0 : α
  q1 : α
  q2 : α
  q3 : α
deriving DecidableEq, Repr, Inhabited

namespace Quad

variable {α β γ : Type}

/-- The thing at position `i`, counted from 0. -/
def get (q : Quad α) (i : Fin 4) : α :=
  match i with
  | 0 => q.q0
  | 1 => q.q1
  | 2 => q.q2
  | 3 => q.q3

/-- Replace the thing at position `i`. -/
def set (q : Quad α) (i : Fin 4) (a : α) : Quad α :=
  match i with
  | 0 => { q with q0 := a }
  | 1 => { q with q1 := a }
  | 2 => { q with q2 := a }
  | 3 => { q with q3 := a }

/-- One function on each of the four. -/
def map (f : α → β) (q : Quad α) : Quad β := ⟨f q.q0, f q.q1, f q.q2, f q.q3⟩

/-- One function on the four pairs. -/
def zipWith (f : α → β → γ) (p : Quad α) (q : Quad β) : Quad γ :=
  ⟨f p.q0 q.q0, f p.q1 q.q1, f p.q2 q.q2, f p.q3 q.q3⟩

/-- The same thing four times. -/
def replicate (a : α) : Quad α := ⟨a, a, a, a⟩

end Quad

/-- A Word of R10: `[a0, a1, a2, a3]`, `q0` the first byte. -/
abbrev Word := Quad Byte

/-- A Block of R10, held as its four columns: column `c` is the Word of bytes `4c` to `4c + 3` (R13).
It is also the cipher's State, the 4 by 4 grid. -/
abbrev Block := Quad Word

/-- A Key of R10, held as its eight Words: word `j` is bytes `4j` to `4j + 3`. -/
abbrev Key := Vector Word 8

/-- A Sched of R10: exactly 15 Blocks, indexed 0 to 14. -/
abbrev Sched := Vector Block 15

/-- Four zero bytes. -/
def Word.zero : Word := Quad.replicate 0

/-- Sixteen zero bytes. -/
def Block.zero : Block := Quad.replicate Word.zero

/-- Thirty-two zero bytes. -/
def Key.zero : Key := Vector.replicate 8 Word.zero

/-- Fifteen zero blocks. -/
def Sched.zero : Sched := Vector.replicate 15 Block.zero

/-- Byte `i` of a block (R12): byte `i mod 4` of column `i div 4` (R13). -/
def Block.byte (b : Block) (i : Fin 16) : Byte :=
  (b.get ⟨i.val / 4, by omega⟩).get ⟨i.val % 4, by omega⟩

/-- Byte `i` of a key (R12). -/
def Key.byte (k : Key) (i : Fin 32) : Byte :=
  (k[i.val / 4]'(by omega)).get ⟨i.val % 4, by omega⟩

end Sys2Proof
end

