-- ==== Sys2Proof/Config.lean ====
section
/-! DEFINITION. What an implementation or a platform fixes (00_scope.md R9), and the free values
(93_implementation_defined.md U1, U2). -/

namespace Sys2Proof

/-- BUS_ERROR_POLICY of R9: what the host platform does with an ERROR response. -/
inductive BusErrorPolicy where
  /-- The platform faults at the access. -/
  | fault
  /-- The host goes on. -/
  | ignore
  /-- The platform records the address and the host goes on. -/
  | record
deriving DecidableEq, Repr

/-- The open parameters of R9 that the platform fixes. -/
structure Platform where
  /-- CORE_BASE: the address of the register window, a multiple of 0x80 (20_memory.md R80). -/
  coreBase : Nat
  /-- CORE_IRQ: the host interrupt line that `irq` drives (60_exceptions.md R310). -/
  coreIrq : Nat
  busErrorPolicy : BusErrorPolicy
deriving DecidableEq, Repr

/-- U1: the value a DOUT read returns while a command is in flight, by the number of the draw. -/
opaque Config.doutDraw : Nat → Reg32

/-- U2: the round-key store after a reset taken during a run, by the number of the draw. -/
opaque Config.rkDraw : Nat → Sched

/-- LAT_KEYEXP of R9, in clock cycles, at least 1. No rule reads it. -/
opaque Config.latKeyexp : ℕ+

/-- LAT_BLOCK of R9, in clock cycles, at least 1. No rule reads it. -/
opaque Config.latBlock : ℕ+

/-- LAT_ZEROIZE of R9, in clock cycles, at least 1. No rule reads it. -/
opaque Config.latZeroize : ℕ+

end Sys2Proof
end

