-- ==== Sys2Proof/Syntax.lean ====
section
/-! DEFINITION. The command words (30_encoding.md R123), the registers (10_state.md R31), the host's bus
accesses (20_memory.md R80) and the host-program statements (30_encoding.md R129). -/

namespace Sys2Proof

/-- The commands of R123. None has an operand field (R121, R126). -/
inductive Instr where
  | nop
  | keyexp
  | ecbEnc
  | ecbDec
  | ctr
  | zeroize
deriving DecidableEq, Repr

/-- The commands that are issued and complete later (45_commands.md R261): all but NOP. -/
inductive InFlightOp where
  | keyexp
  | ecbEnc
  | ecbDec
  | ctr
  | zeroize
deriving DecidableEq, Repr

/-- The registers of R31. -/
inductive Reg where
  | ctrl
  | status
  | cmd
  | key (j : Fin 8)
  | din (j : Fin 4)
  | dout (j : Fin 4)
  | ctr (j : Fin 4)
deriving DecidableEq, Repr

/-- One bus access of R80: `MemRead(addr, width)` or `MemWrite(addr, width, data)`, the width in bytes. -/
inductive HostAccess where
  | read (addr width : Nat)
  | write (addr width : Nat) (data : Reg32)
deriving DecidableEq, Repr

/-- The address of an access. -/
def HostAccess.addr : HostAccess → Nat
  | .read a _ => a
  | .write a _ _ => a

/-- The width of an access in bytes. -/
def HostAccess.width : HostAccess → Nat
  | .read _ n => n
  | .write _ n _ => n

/-- What the host has still to do: one access, or the poll loop of R129, which reads a register until
`(value read & mask) = value`. -/
inductive HostOp where
  | access (a : HostAccess)
  | poll (addr : Nat) (mask value : Reg32)
deriving DecidableEq, Repr

/-- The response of R80. -/
inductive Response where
  | okay
  | error
deriving DecidableEq, Repr

/-- What the bus gave back for one access: its response and, for a read, the value. -/
structure Reply where
  access : HostAccess
  response : Response
  value : Option Reg32
deriving DecidableEq, Repr

/-- Who moves at a step: the host (R80), the core sequencer (45_commands.md R262), or the reset input
(70_reset_and_hazards.md R340). -/
inductive Turn where
  | host
  | sequencer
  | reset
deriving DecidableEq, Repr

/-- The host-program statements of R129, each register given by its offset. -/
inductive Stmt where
  | wr (off : Nat) (imm : Reg32)
  | rd (off : Nat) (name : String)
  | poll (off : Nat) (mask value : Reg32)
  /-- CHK of one word. -/
  | chk (name : String) (value : Reg32)
  /-- CHK of the four words of a GETOUT. -/
  | chkBlock (name : String) (value : Block)
deriving DecidableEq, Repr

end Sys2Proof
end

