-- ==== Sys2Proof/WellFormed.lean ====
section
/-! DEFINITION. The checks on terms: instructions, command words, bus accesses, the platform, host programs. -/

namespace Sys2Proof

/-- 30_encoding.md R121, R126: a command has no operand, so there is nothing an instruction could get wrong. -/
def Instr.wf : Instr → Bool
  | .nop => true
  | .keyexp => true
  | .ecbEnc => true
  | .ecbDec => true
  | .ctr => true
  | .zeroize => true

/-- 30_encoding.md R121, R124: RSV is 0 and OP is not reserved. -/
def CommandWord.wf (v : Reg32) : Bool :=
  v.extractLsb' 4 28 == 0 && (v.extractLsb' 0 4).toNat ≤ 5

/-- 20_memory.md R82, R83, R84: the access at this offset and width is accepted. -/
def Access.wf (off width : Nat) : Bool :=
  width == 4 && off % 4 == 0 && off != 0x0C && off < 0x60

/-- 20_memory.md R80: the access goes to CORE. -/
def Access.inWindow (base addr : Nat) : Bool :=
  base ≤ addr && addr < base + 0x80

/-- 20_memory.md R80: CORE_BASE is a multiple of 0x80. -/
def Platform.wf (p : Platform) : Bool :=
  p.coreBase % 0x80 == 0

/-- 30_encoding.md R129: a CHK asks for a value read earlier, under the names `bound`. -/
def Stmt.wf (bound : List String) : Stmt → Bool
  | .wr _ _ => true
  | .rd _ _ => true
  | .poll _ _ _ => true
  | .chk name _ => bound.contains name
  | .chkBlock name _ => ["0", "1", "2", "3"].all fun d => bound.contains (name ++ d)

/-- A host program in which every CHK names a value that an earlier RD binds. -/
def Program.wf : List String → List Stmt → Bool
  | _, [] => true
  | bound, s :: rest =>
    s.wf bound &&
      Program.wf (match s with
        | .rd _ name => name :: bound
        | _ => bound) rest

end Sys2Proof
end

