-- ==== Sys2Proof/Decode.lean ====
section
/-! DEFINITION. The command decoder and its encoder (30_encoding.md R121 to R124), and the register decoder
(20_memory.md R81, 10_state.md R31). -/

namespace Sys2Proof

/-- The field OP of a command word (R121). -/
def opField (v : Reg32) : BitVec 4 := v.extractLsb' 0 4

/-- The field RSV of a command word (R121). -/
def rsvField (v : Reg32) : BitVec 28 := v.extractLsb' 4 28

/-- The case on OP of R122; `none` is ILLEGAL. -/
def decodeOp (op : Nat) : Option Instr :=
  match op with
  | 0x0 => some .nop
  | 0x1 => some .keyexp
  | 0x2 => some .ecbEnc
  | 0x3 => some .ecbDec
  | 0x4 => some .ctr
  | 0x5 => some .zeroize
  | _ => none

/-- The decoder of R122, total on all words; `none` is ILLEGAL. -/
def decode (v : Reg32) : Option Instr :=
  if rsvField v ≠ 0 then none else decodeOp (opField v).toNat

/-- The words of R123. -/
def encode : Instr → Reg32
  | .nop => 0x00000000#32
  | .keyexp => 0x00000001#32
  | .ecbEnc => 0x00000002#32
  | .ecbDec => 0x00000003#32
  | .ctr => 0x00000004#32
  | .zeroize => 0x00000005#32

/-- The instruction the decoder reads from a table row's bits: one 32-bit word (R128), the bits above `nbits` zero. -/
def decodeTableWord (nbits w : Nat) : Option Instr :=
  if nbits ≤ 32 then decode (BitVec.ofNat 32 (w % 2 ^ nbits)) else none

/-- The offset of each register (R31). -/
def Reg.offset : Reg → Nat
  | .ctrl => 0x00
  | .status => 0x04
  | .cmd => 0x08
  | .key j => 0x10 + 4 * j.val
  | .din j => 0x30 + 4 * j.val
  | .dout j => 0x40 + 4 * j.val
  | .ctr j => 0x50 + 4 * j.val

/-- The register at an offset (R81, R31); `none` where the offset is no register's. -/
def regAt (off : Nat) : Option Reg :=
  match off with
  | 0x00 => some .ctrl
  | 0x04 => some .status
  | 0x08 => some .cmd
  | 0x10 => some (.key 0)
  | 0x14 => some (.key 1)
  | 0x18 => some (.key 2)
  | 0x1C => some (.key 3)
  | 0x20 => some (.key 4)
  | 0x24 => some (.key 5)
  | 0x28 => some (.key 6)
  | 0x2C => some (.key 7)
  | 0x30 => some (.din 0)
  | 0x34 => some (.din 1)
  | 0x38 => some (.din 2)
  | 0x3C => some (.din 3)
  | 0x40 => some (.dout 0)
  | 0x44 => some (.dout 1)
  | 0x48 => some (.dout 2)
  | 0x4C => some (.dout 3)
  | 0x50 => some (.ctr 0)
  | 0x54 => some (.ctr 1)
  | 0x58 => some (.ctr 2)
  | 0x5C => some (.ctr 3)
  | _ => none

end Sys2Proof
end

