-- ==== Sys2Proof/Machine/Gf256.lean ====
section
/-! DEFINITION. The GF(2^8) multiplier (40_gf256.md) and the bytewise xor of words and blocks. -/

namespace Sys2Proof.Machine

/-- Addition of R151. -/
def gadd (a b : Byte) : Byte := a ^^^ b

/-- Doubling, R152: the shift is made in 9 bits, and bit 8 of it says whether to reduce by 0x1B. -/
def xtime (b : Byte) : Byte :=
  let t : BitVec 9 := b.setWidth 9 <<< 1
  if t.getLsbD 8 then t.setWidth 8 ^^^ 0x1B#8 else t.setWidth 8

/-- One pass of the loop of R153, for bit `i` of `b`, on the pair of `p` and the doubled `a`. -/
def gmulStep (b : Byte) (pa : Byte × Byte) (i : Nat) : Byte × Byte :=
  (if b.getLsbD i then pa.1 ^^^ pa.2 else pa.1, xtime pa.2)

/-- The product of R153. -/
def gmul (a b : Byte) : Byte :=
  ([0, 1, 2, 3, 4, 5, 6, 7].foldl (gmulStep b) (0x00#8, a)).1

/-- All 256 bytes in rising order. -/
def allBytes : List Byte := (List.range 256).map (BitVec.ofNat 8)

/-- The multiplicative inverse of R156: the Byte `y` with `gmul a y = 1`, and 0 where there is none (`a = 0`, G2). -/
def ginv (a : Byte) : Byte :=
  (allBytes.find? fun y => gmul a y == 0x01#8).getD 0x00#8

/-- Bytewise xor of two Words. -/
def wordXor (a b : Word) : Word := Quad.zipWith (· ^^^ ·) a b

/-- Bytewise xor of two Blocks. -/
def blockXor (a b : Block) : Block := Quad.zipWith wordXor a b

end Sys2Proof.Machine
end

