-- ==== Sys2Proof/Machine/KeySchedule.lean ====
section
/-! DEFINITION. The key-schedule ROM and the key expander (42_key_schedule.md). -/

namespace Sys2Proof.Machine

/-- RCON-ROM, 14 entries (R190). -/
def rconRom : List Byte :=
  [0x01, 0x02, 0x04, 0x08, 0x10, 0x20, 0x40, 0x80, 0x1b, 0x36, 0x6c, 0xd8, 0xab, 0x4d]

/-- RCON-ROM[i]. The expander reads entries 0 to 6 only (R195). -/
def rcon (i : Nat) : Byte := rconRom.getD i 0

/-- SubWord (R191). -/
def subWord (w : Word) : Word := w.map sub

/-- RotWord (R192). -/
def rotWord (w : Word) : Word := ⟨w.q1, w.q2, w.q3, w.q0⟩

/-- Xor a byte into the first byte only (R194). -/
def xorFirst (w : Word) (b : Byte) : Word := { w with q0 := w.q0 ^^^ b }

/-- The recurrence of R194: `w[i]` from `w[i-8]` and `w[i-1]`. -/
def recurrence (i : Nat) (back8 back1 : Word) : Word :=
  if i % 8 = 0 then wordXor back8 (xorFirst (subWord (rotWord back1)) (rcon (i / 8 - 1)))
  else if i % 8 = 4 then wordXor back8 (subWord back1)
  else wordXor back8 back1

/-- `n` more words in front of the words `w[i-1], w[i-2], ...`, newest first. -/
def extendWords : Nat → List Word → List Word
  | 0, ws => ws
  | n + 1, ws => extendWords n (recurrence ws.length (ws.getD 7 Word.zero) (ws.getD 0 Word.zero) :: ws)

/-- `w[0..59]` in order: the eight words of the key (R193) and the 52 of the recurrence (R194). -/
def expandWords (key : Key) : List Word := (extendWords 52 key.toList.reverse).reverse

/-- `w[4r] ++ w[4r+1] ++ w[4r+2] ++ w[4r+3]` (R196). -/
def roundKeyOf (ws : List Word) (r : Nat) : Block :=
  ⟨ws.getD (4 * r) Word.zero, ws.getD (4 * r + 1) Word.zero,
    ws.getD (4 * r + 2) Word.zero, ws.getD (4 * r + 3) Word.zero⟩

/-- Group 60 words into the 15 round keys (R196). -/
def groupWords (ws : List Word) : Sched :=
  #v[roundKeyOf ws 0, roundKeyOf ws 1, roundKeyOf ws 2, roundKeyOf ws 3, roundKeyOf ws 4,
    roundKeyOf ws 5, roundKeyOf ws 6, roundKeyOf ws 7, roundKeyOf ws 8, roundKeyOf ws 9,
    roundKeyOf ws 10, roundKeyOf ws 11, roundKeyOf ws 12, roundKeyOf ws 13, roundKeyOf ws 14]

/-- Expand (R196). -/
def expand (key : Key) : Sched := groupWords (expandWords key)

end Sys2Proof.Machine
end

