-- ==== Sys2Proof/Machine/RoundTransforms.lean ====
section
/-! DEFINITION. The round transforms and their inverses (43_round_transforms.md). A Block is read as the 4 by 4 grid
of 00_scope.md R13: `(s.get c).get r` is row `r`, column `c` (R210). -/

namespace Sys2Proof.Machine

/-- ByteSub (R211). -/
def byteSub (s : Block) : Block := s.map (Quad.map sub)

/-- InvByteSub (R212). -/
def invByteSub (s : Block) : Block := s.map (Quad.map invSub)

/-- RowShift (R213): row `r` of column `c` comes from column `c + r` mod 4. -/
def rowShift (s : Block) : Block :=
  ⟨⟨s.q0.q0, s.q1.q1, s.q2.q2, s.q3.q3⟩,
   ⟨s.q1.q0, s.q2.q1, s.q3.q2, s.q0.q3⟩,
   ⟨s.q2.q0, s.q3.q1, s.q0.q2, s.q1.q3⟩,
   ⟨s.q3.q0, s.q0.q1, s.q1.q2, s.q2.q3⟩⟩

/-- InvRowShift (R214): row `r` of column `c` comes from column `c - r` mod 4. -/
def invRowShift (s : Block) : Block :=
  ⟨⟨s.q0.q0, s.q3.q1, s.q2.q2, s.q1.q3⟩,
   ⟨s.q1.q0, s.q0.q1, s.q3.q2, s.q2.q3⟩,
   ⟨s.q2.q0, s.q1.q1, s.q0.q2, s.q3.q3⟩,
   ⟨s.q3.q0, s.q2.q1, s.q1.q2, s.q0.q3⟩⟩

/-- One row of a matrix times a column: the xor of `gmul(a[k], m[k])` (R215). -/
def dotColumn (m : Quad Byte) (a : Word) : Byte :=
  gmul a.q0 m.q0 ^^^ gmul a.q1 m.q1 ^^^ gmul a.q2 m.q2 ^^^ gmul a.q3 m.q3

/-- A matrix, given by its rows, times a column. -/
def mulColumn (m : Quad (Quad Byte)) (a : Word) : Word := m.map fun row => dotColumn row a

/-- The matrix M of R215. -/
def mixMatrix : Quad (Quad Byte) := ⟨⟨2, 3, 1, 1⟩, ⟨1, 2, 3, 1⟩, ⟨1, 1, 2, 3⟩, ⟨3, 1, 1, 2⟩⟩

/-- The inverse matrix of R216. -/
def invMixMatrix : Quad (Quad Byte) := ⟨⟨14, 11, 13, 9⟩, ⟨9, 14, 11, 13⟩, ⟨13, 9, 14, 11⟩, ⟨11, 13, 9, 14⟩⟩

/-- ColumnMix (R215). -/
def columnMix (s : Block) : Block := s.map (mulColumn mixMatrix)

/-- InvColumnMix (R216). -/
def invColumnMix (s : Block) : Block := s.map (mulColumn invMixMatrix)

/-- RoundKeyAdd (R217). -/
def roundKeyAdd (s k : Block) : Block := blockXor s k

end Sys2Proof.Machine
end

