-- ==== Sys2Proof/Machine/BlockCipher.lean ====
section
/-! DEFINITION. The 14-round orchestrator (44_block_cipher.md). -/

namespace Sys2Proof.Machine

/-- One of the rounds 1 to 13 of R240. -/
def encryptRound (rk : Sched) (s : Block) (r : Fin 15) : Block :=
  roundKeyAdd (columnMix (rowShift (byteSub s))) rk[r]

/-- One of the passes 13 down to 1 of R241. -/
def decryptRound (rk : Sched) (s : Block) (r : Fin 15) : Block :=
  invByteSub (invRowShift (invColumnMix (roundKeyAdd s rk[r])))

/-- The round numbers 1 to 13. -/
def innerRounds : List (Fin 15) := [1, 2, 3, 4, 5, 6, 7, 8, 9, 10, 11, 12, 13]

/-- Encrypt (R240). -/
def encrypt (rk : Sched) (p : Block) : Block :=
  let s := innerRounds.foldl (encryptRound rk) (roundKeyAdd p rk[0])
  roundKeyAdd (rowShift (byteSub s)) rk[14]

/-- Decrypt (R241). -/
def decrypt (rk : Sched) (c : Block) : Block :=
  let s := innerRounds.reverse.foldl (decryptRound rk) (invByteSub (invRowShift (roundKeyAdd c rk[14])))
  roundKeyAdd s rk[0]

end Sys2Proof.Machine
end

