-- ==== Sys2Proof/Machine/State.lean ====
section
/-! DEFINITION. The machine's state (10_state.md R57), what stands around CORE, and the state after reset
(70_reset_and_hazards.md R340). -/

namespace Sys2Proof.Machine

/-- The record of the command in flight and its operands (10_state.md R51). -/
structure InFlight where
  op : InFlightOp
  key : Key
  rk : Sched
  din : Block
  ctr : Block
deriving DecidableEq, Repr

/-- The state. The first part is CORE's own (R57); the second is the model's own (the host, the scheduler, the
platform, the free draws: notes/assumptions entries 1 to 10). -/
structure State where
  /-- CTRL bit 0, IE_DONE (R32). -/
  ieDone : Bool
  /-- CTRL bit 1, IE_ERR (R32). -/
  ieErr : Bool
  /-- STATUS bit 1, DONE (R37). -/
  done : Bool
  /-- STATUS bit 2, ERR (R38). -/
  err : Bool
  /-- STATUS bits 11:8, ERRCODE (R38). -/
  errcode : BitVec 4
  /-- STATUS bit 3, KEY_VALID (R39). -/
  keyValid : Bool
  /-- STATUS bit 4, CTR_EXH (R40). -/
  ctrExh : Bool
  /-- KEY0 to KEY7 (R42). -/
  key : Key
  /-- The round-key store (R49). -/
  rk : Sched
  /-- DIN0 to DIN3 (R43). -/
  din : Block
  /-- DOUT0 to DOUT3 (R44). -/
  dout : Block
  /-- CTR0 to CTR3 (R45). -/
  ctr : Block
  /-- The command in flight (R51). -/
  inflight : Option InFlight
  /-- The open parameters of 00_scope.md R9. -/
  platform : Platform
  /-- The host's accesses still to come, in program order (20_memory.md R91, R93). -/
  program : List HostOp
  /-- The scheduler's choices still to come (93_implementation_defined.md U4). -/
  turns : List Turn
  /-- What the host has received, newest first (70_reset_and_hazards.md R365). -/
  replies : List Reply
  /-- The addresses the platform has recorded under the policy `record`, newest first. -/
  busErrorLog : List Nat
  /-- How many free values have been drawn. -/
  draws : Nat
deriving DecidableEq, Repr

/-- The command errors of 60_exceptions.md R300. -/
inductive CmdError where
  | illegalCmd
  | busy
  | noKey
  | ctrOverflow
deriving DecidableEq, Repr

/-- The causes of a bus error, in the order R305 checks them. -/
inductive BusErrorCause where
  | width
  | alignment
  | reserved
deriving DecidableEq, Repr

/-- The reasons a step stops with a fault. -/
inductive Fault where
  /-- Raised by a host step whose access gets an ERROR response (60_exceptions.md R305) when the platform's
  BUS_ERROR_POLICY is `fault`. Safe: the platform's own fault handling is outside CORE. -/
  | busError (addr : Nat)
deriving DecidableEq, Repr

/-- The reasons a step is refused. -/
inductive Refusal where
  /-- Raised by an arm of `exec` whose instruction has no meaning yet. No arm raises it. Safe. -/
  | notModelled (mnemonic : String)
  /-- Raised by a host step whose address is outside the register window, so not CORE's (20_memory.md R80). Safe: the
  spec says nothing of such an access. -/
  | outsideWindow (addr : Nat)
deriving DecidableEq, Repr

/-- The platform parameters that `State.reset` names (notes/assumptions entries 3, 4, 5). -/
def platformAtReset : Platform where
  coreBase := 0
  coreIrq := 0
  busErrorPolicy := .ignore

/-- The state after reset (R340). `rk`, which R340 leaves unspecified, is zero, as U2 allows (entry 8). -/
def State.reset : State where
  ieDone := false
  ieErr := false
  done := false
  err := false
  errcode := 0
  keyValid := false
  ctrExh := false
  key := Key.zero
  rk := Sched.zero
  din := Block.zero
  dout := Block.zero
  ctr := Block.zero
  inflight := none
  platform := platformAtReset
  program := []
  turns := []
  replies := []
  busErrorLog := []
  draws := 0

end Sys2Proof.Machine
end

