-- ==== Sys2Proof/Machine/Flags.lean ====
section
/-! DEFINITION. The CTRL and STATUS words, the error codes and the irq output (10_state.md R32 to R40, R52). -/

namespace Sys2Proof.Machine

/-- BUSY is 1 exactly while a command is in flight (R36). -/
def State.busy (s : State) : Bool := s.inflight.isSome

/-- The codes of 60_exceptions.md R300. -/
def CmdError.code : CmdError → BitVec 4
  | .illegalCmd => 0x1
  | .busy => 0x2
  | .noKey => 0x3
  | .ctrOverflow => 0x4

/-- The value of a CTRL read: `{30'b0, IE_ERR, IE_DONE}` (R33). -/
def ctrlWord (s : State) : Reg32 :=
  (0 : BitVec 30) ++ BitVec.ofBool s.ieErr ++ BitVec.ofBool s.ieDone

/-- The value of a STATUS read: `{20'b0, ERRCODE[3:0], 3'b0, CTR_EXH, KEY_VALID, ERR, DONE, BUSY}` (R34). -/
def statusWord (s : State) : Reg32 :=
  (0 : BitVec 20) ++ s.errcode ++ (0 : BitVec 3) ++ BitVec.ofBool s.ctrExh ++ BitVec.ofBool s.keyValid ++
    BitVec.ofBool s.err ++ BitVec.ofBool s.done ++ BitVec.ofBool s.busy

/-- A CTRL write (R33). -/
def writeCtrl (v : Reg32) (s : State) : State :=
  { s with ieDone := v.getLsbD 0, ieErr := v.getLsbD 1 }

/-- A STATUS write (R35): bit 1 clears DONE, bit 2 clears ERR and ERRCODE. The latter is also the return of
60_exceptions.md R308. -/
def writeStatus (v : Reg32) (s : State) : State :=
  { s with
    done := s.done && !v.getLsbD 1
    err := s.err && !v.getLsbD 2
    errcode := if v.getLsbD 2 then 0 else s.errcode }

/-- The `irq` output (R52, 60_exceptions.md R310). -/
def irq (s : State) : Bool := (s.ieDone && s.done) || (s.ieErr && s.err)

/-- The level of host interrupt line `n` as far as CORE drives it (R310, CORE_IRQ). -/
def irqLine (n : Nat) (s : State) : Bool := n == s.platform.coreIrq && irq s

end Sys2Proof.Machine
end

