-- ==== Sys2Proof/Machine/Operands.lean ====
section
/-! DEFINITION. Packing of bytes into registers (20_memory.md R86), operand assembly (30_encoding.md R127) and the
counter field (10_state.md R45). -/

namespace Sys2Proof.Machine

/-- `pack` of R86 on the four bytes of one register: the first byte in bits 31:24. -/
def pack (w : Word) : Reg32 := w.q0 ++ w.q1 ++ w.q2 ++ w.q3

/-- `unpack` of R86. -/
def unpack (v : Reg32) : Word :=
  ⟨v.extractLsb' 24 8, v.extractLsb' 16 8, v.extractLsb' 8 8, v.extractLsb' 0 8⟩

/-- A 128-bit operand from its four register values (R127). -/
def assembleBlock (v0 v1 v2 v3 : Reg32) : Block := ⟨unpack v0, unpack v1, unpack v2, unpack v3⟩

/-- The 64-bit big-endian counter field of a counter block, `{ctr[8], ..., ctr[15]}` (R45). -/
def counterField (ctr : Block) : BitVec 64 := pack ctr.q2 ++ pack ctr.q3

/-- Replace bytes 8 to 15 of a counter block by the bytes of `cnt`, most significant first (45_commands.md R281). -/
def withCounter (ctr : Block) (cnt : BitVec 64) : Block :=
  { ctr with q2 := unpack (cnt.extractLsb' 32 32), q3 := unpack (cnt.extractLsb' 0 32) }

end Sys2Proof.Machine
end

