-- ==== Sys2Proof/Machine/Ops.lean ====
section
/-! DEFINITION. The shared operations: recording an error, issue and completion of a command, register reads and
stores, reset. -/

namespace Sys2Proof.Machine

/-- `raise CmdError(code)` (60_exceptions.md R303), CORE's analogue of taking an exception (R307): the first error
sets ERR and ERRCODE, a later one changes nothing. -/
def raiseCmdError (c : CmdError) (s : State) : State :=
  { s with
    err := true
    errcode := if s.err then s.errcode else c.code }

/-- The return beside it (R308): clear ERR and ERRCODE, by a STATUS write with bit 2 set. -/
def clearCmdError (s : State) : State := writeStatus 0x00000004#32 s

/-- Whether the issue of a command clears KEY_VALID (45_commands.md R261). -/
def clearsKeyValid : InFlightOp → Bool
  | .keyexp => true
  | .ecbEnc => false
  | .ecbDec => false
  | .ctr => false
  | .zeroize => true

/-- `issue(op)` (45_commands.md R261). -/
def issue (op : InFlightOp) (s : State) : State :=
  { s with
    inflight := some { op := op, key := s.key, rk := s.rk, din := s.din, ctr := s.ctr }
    done := false
    keyValid := s.keyValid && !clearsKeyValid op }

/-- The end of every completion (45_commands.md R262). -/
def finish (s : State) : State := { s with done := true, inflight := none }

/-- Store into KEYj (10_state.md R42). -/
def setKeyWord (j : Fin 8) (v : Reg32) (s : State) : State :=
  { s with
    key := s.key.set j.val (unpack v) j.isLt
    keyValid := false }

/-- Store into DINj (10_state.md R43). -/
def setDinWord (j : Fin 4) (v : Reg32) (s : State) : State :=
  { s with din := s.din.set j (unpack v) }

/-- Store into CTRj (10_state.md R45). -/
def setCtrWord (j : Fin 4) (v : Reg32) (s : State) : State :=
  { s with
    ctr := s.ctr.set j (unpack v)
    ctrExh := false }

/-- A write that is discarded with the BUSY error while a command is in flight (60_exceptions.md R301). -/
def whenIdle (store : State → State) (s : State) : State :=
  if s.busy then raiseCmdError .busy s else store s

/-- Use up one free draw. -/
def nextDraw (s : State) : State := { s with draws := s.draws + 1 }

/-- A register read: the value, and the state, which differs only by a free draw used up
(10_state.md R31 to R45, 20_memory.md R90). -/
def readReg (r : Reg) (s : State) : Reg32 × State :=
  match r with
  | .ctrl => (ctrlWord s, s)
  | .status => (statusWord s, s)
  | .cmd => (0, s)
  | .key _ => (0, s)
  | .din j => (pack (s.din.get j), s)
  | .dout j => if s.busy then (Config.doutDraw s.draws, nextDraw s) else (pack (s.dout.get j), s)
  | .ctr j => (pack (s.ctr.get j), s)

/-- Reset (70_reset_and_hazards.md R340, R341): CORE's part as at reset, `rk` a free draw (U2). What stands around CORE
keeps its value. -/
def takeReset (s : State) : State :=
  { State.reset with
    rk := Config.rkDraw s.draws
    platform := s.platform
    program := s.program
    turns := s.turns
    replies := s.replies
    busErrorLog := s.busErrorLog
    draws := s.draws + 1 }

end Sys2Proof.Machine
end

