-- ==== Sys2Proof/Machine/Commands.lean ====
section
/-! DEFINITION. The commands (45_commands.md): for each, its meaning at the CMD write (acceptance and issue) and what
it does at its completion. -/

namespace Sys2Proof.Machine

/-- The first failing check of R260 on a decoded command, if any: BUSY, then NO_KEY where the command needs a key,
then CTR_OVERFLOW where it needs an unexhausted counter. -/
def commandError (needsKey needsCounter : Bool) (s : State) : Option CmdError :=
  if s.busy then some .busy
  else if needsKey && !s.keyValid then some .noKey
  else if needsCounter && s.ctrExh then some .ctrOverflow
  else none

/-- Raise the first failing check, or go on (R260). -/
def acceptOr (needsKey needsCounter : Bool) (go : State → State) (s : State) : State :=
  match commandError needsKey needsCounter s with
  | some c => raiseCmdError c s
  | none => go s

/-- NOP (R265). -/
def execNop (s : State) : Host.Outcome State Fault Refusal :=
  .next (acceptOr false false id s)

/-- KEYEXP, issue (R270). -/
def execKeyexp (s : State) : Host.Outcome State Fault Refusal :=
  .next (acceptOr false false (issue .keyexp) s)

/-- ECB_ENC, issue (R275). -/
def execEcbEnc (s : State) : Host.Outcome State Fault Refusal :=
  .next (acceptOr true false (issue .ecbEnc) s)

/-- ECB_DEC, issue (R277). -/
def execEcbDec (s : State) : Host.Outcome State Fault Refusal :=
  .next (acceptOr true false (issue .ecbDec) s)

/-- CTR, issue (R280). -/
def execCtr (s : State) : Host.Outcome State Fault Refusal :=
  .next (acceptOr true true (issue .ctr) s)

/-- ZEROIZE, issue (R290). -/
def execZeroize (s : State) : Host.Outcome State Fault Refusal :=
  .next (acceptOr false false (issue .zeroize) s)

/-- The command whose issue puts `op` in flight (R261). -/
def instrOf : InFlightOp → Instr
  | .keyexp => .keyexp
  | .ecbEnc => .ecbEnc
  | .ecbDec => .ecbDec
  | .ctr => .ctr
  | .zeroize => .zeroize

/-- KEYEXP, completion (R271). -/
def completeKeyexp (f : InFlight) (s : State) : State :=
  { s with
    rk := expand f.key
    keyValid := true }

/-- ECB_ENC, completion (R275). -/
def completeEcbEnc (f : InFlight) (s : State) : State :=
  { s with dout := encrypt f.rk f.din }

/-- ECB_DEC, completion (R277). -/
def completeEcbDec (f : InFlight) (s : State) : State :=
  { s with dout := decrypt f.rk f.din }

/-- The counter field is 2^64 - 1 (R281). -/
def counterExhausted (ctr : Block) : Bool := counterField ctr == BitVec.allOnes 64

/-- CTR, completion (R281). -/
def completeCtr (f : InFlight) (s : State) : State :=
  { s with
    dout := blockXor f.din (encrypt f.rk f.ctr)
    ctrExh := s.ctrExh || counterExhausted f.ctr
    ctr := if counterExhausted f.ctr then s.ctr else withCounter s.ctr (counterField f.ctr + 1) }

/-- ZEROIZE, completion (R291). -/
def completeZeroize (_ : InFlight) (s : State) : State :=
  { s with
    key := Key.zero
    rk := Sched.zero
    din := Block.zero
    dout := Block.zero
    ctr := Block.zero
    keyValid := false
    ctrExh := false }

/-- The case of R262 on the opcode in flight. -/
def completeOp (f : InFlight) (s : State) : State :=
  match f.op with
  | .keyexp => completeKeyexp f s
  | .ecbEnc => completeEcbEnc f s
  | .ecbDec => completeEcbDec f s
  | .ctr => completeCtr f s
  | .zeroize => completeZeroize f s

/-- `complete()` (R262). With no command in flight the sequencer has no step. -/
def complete (s : State) : State :=
  match s.inflight with
  | none => s
  | some f => finish (completeOp f s)

end Sys2Proof.Machine
end

