-- ==== Sys2Proof/Machine/Dispatch.lean ====
section
/-! DEFINITION. The meaning of each command word (30_encoding.md R123), one arm an instruction. -/

namespace Sys2Proof.Machine

/-- An accepted CMD write of the instruction's word (45_commands.md R260). -/
def exec (i : Instr) (s : State) : Host.Outcome State Fault Refusal :=
  match i with
  | .nop => Sys2Proof.Machine.execNop s
  | .keyexp => Sys2Proof.Machine.execKeyexp s
  | .ecbEnc => Sys2Proof.Machine.execEcbEnc s
  | .ecbDec => Sys2Proof.Machine.execEcbDec s
  | .ctr => Sys2Proof.Machine.execCtr s
  | .zeroize => Sys2Proof.Machine.execZeroize s

end Sys2Proof.Machine
end

