-- ==== Sys2Proof/Machine/Bus.lean ====
section
/-! DEFINITION. Host accesses on the bus (20_memory.md R80 to R85, 60_exceptions.md R305) and the register writes. -/

namespace Sys2Proof.Machine

/-- The offset of an address in the window, if the access goes to CORE (R80). -/
def windowOffset (base addr : Nat) : Option Nat :=
  if base ≤ addr ∧ addr < base + 0x80 then some (addr - base) else none

/-- The register an access selects, or the first cause of a bus error in the order of R305. -/
def busSelect (off width : Nat) : Except BusErrorCause Reg :=
  if width ≠ 4 then .error .width
  else if off % 4 ≠ 0 then .error .alignment
  else match regAt off with
    | some r => .ok r
    | none => .error .reserved

/-- An accepted CMD write (45_commands.md R260): BUSY is checked before the word is decoded. -/
def cmdWrite (v : Reg32) (s : State) : Host.Outcome State Fault Refusal :=
  match decode v with
  | some i => exec i s
  | none => .next (raiseCmdError (if s.busy then .busy else .illegalCmd) s)

/-- An accepted write to a register (10_state.md R33, R35, R41 to R45). -/
def writeReg (r : Reg) (v : Reg32) (s : State) : Host.Outcome State Fault Refusal :=
  match r with
  | .ctrl => .next (writeCtrl v s)
  | .status => .next (writeStatus v s)
  | .cmd => cmdWrite v s
  | .key j => .next (whenIdle (setKeyWord j v) s)
  | .din j => .next (whenIdle (setDinWord j v) s)
  | .dout _ => .next s
  | .ctr j => .next (whenIdle (setCtrWord j v) s)

/-- `MemRead` at an offset of the window: response, value, state (R80, R85, R305). -/
def busRead (off width : Nat) (s : State) : Response × Reg32 × State :=
  match busSelect off width with
  | .ok r => (.okay, readReg r s)
  | .error _ => (.error, 0, s)

/-- Hand a reply to the host. -/
def logReply (r : Reply) (s : State) : State := { s with replies := r :: s.replies }

/-- The platform's BUS_ERROR_POLICY on an ERROR response (R305, 00_scope.md R9). -/
def onBusError (addr : Nat) (s : State) : Host.Outcome State Fault Refusal :=
  match s.platform.busErrorPolicy with
  | .fault => .fault (.busError addr)
  | .ignore => .next s
  | .record => .next { s with busErrorLog := addr :: s.busErrorLog }

/-- Log a reply, then let the platform react to an ERROR response. -/
def deliver (r : Reply) (s : State) : Host.Outcome State Fault Refusal :=
  match r.response with
  | .okay => .next (logReply r s)
  | .error => onBusError r.access.addr (logReply r s)

/-- The host performs `MemRead(addr, width)`. -/
def hostRead (addr width : Nat) (s : State) : Host.Outcome State Fault Refusal :=
  match windowOffset s.platform.coreBase addr with
  | none => .refused (.outsideWindow addr)
  | some off =>
    let r := busRead off width s
    deliver { access := .read addr width, response := r.1, value := some r.2.1 } r.2.2

/-- The host performs `MemWrite(addr, width, data)`. -/
def hostWrite (addr width : Nat) (data : Reg32) (s : State) : Host.Outcome State Fault Refusal :=
  match windowOffset s.platform.coreBase addr with
  | none => .refused (.outsideWindow addr)
  | some off =>
    match busSelect off width with
    | .ok r =>
      writeReg r data (logReply { access := .write addr width data, response := .okay, value := none } s)
    | .error _ => deliver { access := .write addr width data, response := .error, value := none } s

/-- One bus access of the host (R80). -/
def hostAccess (a : HostAccess) (s : State) : Host.Outcome State Fault Refusal :=
  match a with
  | .read addr width => hostRead addr width s
  | .write addr width data => hostWrite addr width data s

/-- The value of the newest reply, 0 where it carries none. -/
def lastValue (s : State) : Reg32 := (s.replies.head?.bind Reply.value).getD 0

/-- One read of a poll loop (30_encoding.md R129): the loop ends when `(value read & mask) = value`. -/
def hostPoll (addr : Nat) (mask value : Reg32) (rest : List HostOp) (s : State) :
    Host.Outcome State Fault Refusal :=
  match hostRead addr 4 s with
  | .next t => .next (if lastValue t &&& mask = value then { t with program := rest } else t)
  | .fault f => .fault f
  | .refused r => .refused r

/-- The host's turn: its next access, or nothing when its program is at its end. -/
def hostStep (s : State) : Host.Outcome State Fault Refusal :=
  match s.program with
  | [] => .next s
  | .access a :: rest => hostAccess a { s with program := rest }
  | .poll addr mask value :: rest => hostPoll addr mask value rest s

end Sys2Proof.Machine
end

