-- ==== Sys2Proof/Machine/Schedule.lean ====
section
/-! DEFINITION. Which agent moves (20_memory.md R94, 93_implementation_defined.md U4; notes/assumptions entry 1). -/

namespace Sys2Proof.Machine

/-- The agent that moves next: the scheduler's next choice; with none left, the sequencer if a command is in flight
(so every command completes, 45_commands.md R263), else the host. -/
def nextTurn (s : State) : Turn :=
  match s.turns with
  | t :: _ => t
  | [] => if s.busy then .sequencer else .host

/-- The state with that choice used up. -/
def dropTurn (s : State) : State := { s with turns := s.turns.tail }

/-- The step of an agent. -/
def takeTurn (t : Turn) (s : State) : Host.Outcome State Fault Refusal :=
  match t with
  | .host => hostStep s
  | .sequencer => .next (complete s)
  | .reset => .next (takeReset s)

end Sys2Proof.Machine
end

