-- ==== Sys2Proof/Machine/Step.lean ====
section
/-! DEFINITION. One step of the machine, and how the host places one command word before it. -/

namespace Sys2Proof.Machine

/-- One step: the agent whose turn it is moves (00_scope.md R5, 20_memory.md R93, R94). -/
def step (s : State) : Host.Outcome State Fault Refusal := takeTurn (nextTurn s) (dropTurn s)

/-- `s` with the host's very next access the CMD write of this word (20_memory.md R91: the host's accesses are the
program; notes/assumptions entry 2). -/
def State.withFetchWord (s : State) (nbits w : Nat) : State :=
  { s with
    program :=
      .access (.write (s.platform.coreBase + 0x08) 4 (BitVec.ofNat 32 (w % 2 ^ nbits))) :: s.program
    turns := .host :: s.turns }

end Sys2Proof.Machine
end

