-- ==== Sys2Proof/Machine/HostProgram.lean ====
section
/-! DEFINITION. Host programs (30_encoding.md R129 to R131): the bus transactions of each statement, the
pseudo-instructions, the source's calls as programs, and what a CHK asks. -/

namespace Sys2Proof.Machine

/-- The transactions of a statement (R129). CHK has none. -/
def stmtOps (base : Nat) : Stmt → List HostOp
  | .wr off imm => [.access (.write (base + off) 4 imm)]
  | .rd off _ => [.access (.read (base + off) 4)]
  | .poll off mask value => [.poll (base + off) mask value]
  | .chk _ _ => []
  | .chkBlock _ _ => []

/-- The transactions of a program. -/
def programOps (base : Nat) (p : List Stmt) : List HostOp := p.flatMap (stmtOps base)

/-- A state with a program placed behind what the host has still to do. -/
def State.withProgram (s : State) (p : List Stmt) : State :=
  { s with program := s.program ++ programOps s.platform.coreBase p }

/-- ISSUE (R130). -/
def pseudoIssue (i : Instr) : List Stmt := [.wr Reg.cmd.offset (encode i)]

/-- WAIT (R130). -/
def pseudoWait : List Stmt := [.poll Reg.status.offset 0x00000001#32 0x00000000#32]

/-- RUN (R130). -/
def pseudoRun (i : Instr) : List Stmt := pseudoIssue i ++ pseudoWait

/-- SETKEY (R130). -/
def pseudoSetKey (k : Key) : List Stmt :=
  [.wr (Reg.key 0).offset (pack k[0]), .wr (Reg.key 1).offset (pack k[1]),
   .wr (Reg.key 2).offset (pack k[2]), .wr (Reg.key 3).offset (pack k[3]),
   .wr (Reg.key 4).offset (pack k[4]), .wr (Reg.key 5).offset (pack k[5]),
   .wr (Reg.key 6).offset (pack k[6]), .wr (Reg.key 7).offset (pack k[7])]

/-- SETDIN (R130). -/
def pseudoSetDin (b : Block) : List Stmt :=
  [.wr (Reg.din 0).offset (pack b.q0), .wr (Reg.din 1).offset (pack b.q1),
   .wr (Reg.din 2).offset (pack b.q2), .wr (Reg.din 3).offset (pack b.q3)]

/-- SETCTR (R130). -/
def pseudoSetCtr (b : Block) : List Stmt :=
  [.wr (Reg.ctr 0).offset (pack b.q0), .wr (Reg.ctr 1).offset (pack b.q1),
   .wr (Reg.ctr 2).offset (pack b.q2), .wr (Reg.ctr 3).offset (pack b.q3)]

/-- GETOUT (R130). -/
def pseudoGetOut (n : String) : List Stmt :=
  [.rd (Reg.dout 0).offset (n ++ "0"), .rd (Reg.dout 1).offset (n ++ "1"),
   .rd (Reg.dout 2).offset (n ++ "2"), .rd (Reg.dout 3).offset (n ++ "3")]

/-- CLRST (R130). -/
def pseudoClrSt : List Stmt := [.wr Reg.status.offset 0x00000006#32]

/-- `encryptBlock` (R131). -/
def callEncryptBlock (k : Key) (m : Block) (n : String) : List Stmt :=
  pseudoSetKey k ++ pseudoRun .keyexp ++ pseudoSetDin m ++ pseudoRun .ecbEnc ++ pseudoGetOut n

/-- `decryptBlock` (R131). -/
def callDecryptBlock (k : Key) (c : Block) (n : String) : List Stmt :=
  pseudoSetKey k ++ pseudoRun .keyexp ++ pseudoSetDin c ++ pseudoRun .ecbDec ++ pseudoGetOut n

/-- `encryptECB` (R131), the outputs under the names given with the blocks. -/
def callEncryptEcb (k : Key) (ms : List (Block × String)) : List Stmt :=
  pseudoSetKey k ++ pseudoRun .keyexp ++
    ms.flatMap fun m => pseudoSetDin m.1 ++ pseudoRun .ecbEnc ++ pseudoGetOut m.2

/-- `encryptCTR` (R131), the outputs under the names given with the blocks. -/
def callEncryptCtr (k : Key) (nonce : Block) (ms : List (Block × String)) : List Stmt :=
  pseudoSetKey k ++ pseudoRun .keyexp ++ pseudoSetCtr nonce ++
    ms.flatMap fun m => pseudoSetDin m.1 ++ pseudoRun .ctr ++ pseudoGetOut m.2

/-- The value a reply carries, 0 where it carries none. -/
def replyValue (r : Reply) : Reg32 := r.value.getD 0

/-- The replies left after those of one poll loop. -/
def afterPoll (mask value : Reg32) : List Reply → List Reply
  | [] => []
  | r :: rs => if replyValue r &&& mask = value then rs else afterPoll mask value rs

/-- Whether every CHK of a program holds (R129), given the replies the host received, oldest first, and the names
bound so far. DESIGN CHOICE (notes/assumptions entry 19): an RD whose reply never arrived, in a run that is not over or
that stopped at a bus fault, binds its name to no value, and a CHK of that name does not hold. -/
def checksHold : List Stmt → List Reply → List (String × Option Reg32) → Bool
  | [], _, _ => true
  | .wr _ _ :: p, rs, env => checksHold p rs.tail env
  | .rd _ name :: p, rs, env => checksHold p rs.tail ((name, rs.head?.map replyValue) :: env)
  | .poll _ mask value :: p, rs, env => checksHold p (afterPoll mask value rs) env
  | .chk name value :: p, rs, env => env.lookup name == some (some value) && checksHold p rs env
  | .chkBlock name b :: p, rs, env =>
    env.lookup (name ++ "0") == some (some (pack b.q0)) && env.lookup (name ++ "1") == some (some (pack b.q1)) &&
      env.lookup (name ++ "2") == some (some (pack b.q2)) && env.lookup (name ++ "3") == some (some (pack b.q3)) &&
      checksHold p rs env

/-- A run is over: the host has done its last statement and BUSY = 0 (70_reset_and_hazards.md R365). -/
def runOver (s : State) : Bool := s.program.isEmpty && !s.busy

end Sys2Proof.Machine
end

