-- ==== Sys2Proof/Machine/Modes.lean ====
section
/-! DEFINITION. The ECB and CTR wrappers over whole blocks (45_commands.md R276, R282): what a message gives, and the
sequence of commands that computes it. -/

namespace Sys2Proof.Machine

/-- ECB encryption of a message of whole blocks (R276). -/
def ecbEncryptMessage (key : Key) (ms : List Block) : List Block := ms.map (encrypt (expand key))

/-- ECB decryption of a message of whole blocks (R276, R277). -/
def ecbDecryptMessage (key : Key) (cs : List Block) : List Block := cs.map (decrypt (expand key))

/-- The counter block of position `i`: `IV ‖ (c0 + i)` (R282). -/
def counterBlock (n : Block) (i : Nat) : Block := withCounter n (counterField n + BitVec.ofNat 64 i)

/-- CTR encryption, and decryption, of a message of whole blocks from the counter block `n` (R282). -/
def ctrMessage (key : Key) (n : Block) (ms : List Block) : List Block :=
  ms.mapIdx fun i m => blockXor m (encrypt (expand key) (counterBlock n i))

/-- A block placed in DIN0 to DIN3 (R345 step 6). -/
def loadDin (m : Block) (s : State) : State :=
  setDinWord 3 (pack m.q3) (setDinWord 2 (pack m.q2) (setDinWord 1 (pack m.q1) (setDinWord 0 (pack m.q0) s)))

/-- One block after another (R345 step 6): place it in DIN, issue the command, let it complete, take DOUT. The last
state and the outputs in block order. -/
def runBlocks (i : Instr) : List Block → State → Host.Outcome (State × List Block) Fault Refusal
  | [], s => .next (s, [])
  | m :: ms, s =>
    match exec i (loadDin m s) with
    | .next t =>
      match runBlocks i ms (complete t) with
      | .next (u, outs) => .next (u, (complete t).dout :: outs)
      | .fault f => .fault f
      | .refused r => .refused r
    | .fault f => .fault f
    | .refused r => .refused r

end Sys2Proof.Machine
end

