-- ==== Sys2Proof/Safety.lean ====
section
/-! DEFINITION. What a safe state is: the invariant the spec states or implies, and a host that makes no access at
which the model stops. -/

namespace Sys2Proof.Machine

/-- The invariant of the machine. Each field names the rule it comes from. -/
structure State.Inv (s : State) : Prop where
  /-- 20_memory.md R80. -/
  base_aligned : s.platform.coreBase % 0x80 = 0
  /-- 10_state.md R53. -/
  rk_expands : s.keyValid = true → s.rk = expand s.key
  /-- 10_state.md R51: the snapshot equals the live registers. -/
  snapshot_live : ∀ f, s.inflight = some f →
    f.key = s.key ∧ f.rk = s.rk ∧ f.din = s.din ∧ f.ctr = s.ctr
  /-- 10_state.md R38: ERR = 0 implies ERRCODE = 0. -/
  errcode_clear : s.err = false → s.errcode = 0
  /-- 60_exceptions.md R300, U6: a recorded code is one of 1 to 4. -/
  errcode_known : s.err = true → s.errcode = 1 ∨ s.errcode = 2 ∨ s.errcode = 3 ∨ s.errcode = 4
  /-- 10_state.md R37, 45_commands.md R261: DONE is 0 while a command is in flight. -/
  inflight_not_done : ∀ f, s.inflight = some f → s.done = false
  /-- 10_state.md R39, 45_commands.md R260, R261: KEY_VALID while a command is in flight. -/
  inflight_key : ∀ f, s.inflight = some f → s.keyValid = !clearsKeyValid f.op
  /-- 10_state.md R40: CTR_EXH = 1 says the counter field is all ones. -/
  exhausted : s.ctrExh = true → counterExhausted s.ctr = true
  /-- 45_commands.md R260: CTR is not in flight with an exhausted counter. -/
  inflight_ctr : ∀ f, s.inflight = some f → f.op = .ctr → s.ctrExh = false

/-- CORE's own part of a state: what stands around it (the host, the scheduler, the logs, the draws) is blanked. -/
def coreOnly (s : State) : State :=
  { s with program := [], turns := [], replies := [], busErrorLog := [], draws := 0 }

/-- The same state with another round-key store, in the store and in the snapshot of a command in flight. -/
def withRk (rk : Sched) (s : State) : State :=
  { s with
    rk := rk
    inflight := s.inflight.map fun f => { f with rk := rk } }

/-- The address a host operation accesses. -/
def hostOpAddr : HostOp → Nat
  | .access a => a.addr
  | .poll addr _ _ => addr

/-- The host stays in the window and the platform does not fault on an ERROR response. -/
def HostOk (s : State) : Prop :=
  s.platform.busErrorPolicy ≠ .fault ∧
    ∀ op ∈ s.program, Access.inWindow s.platform.coreBase (hostOpAddr op) = true

/-- A state from which the machine takes a step. -/
def Runs (s : State) : Prop := ∃ t, step s = .next t

end Sys2Proof.Machine
end

