-- ==== Sys2Proof/Certificates/Slice0/Obligations.lean ====
section
/-! DEFINITION. The statements for the provers. -/

open Sys2Proof Sys2Proof.Machine

/-! ### Encoding and the step -/

/-- Words written out from the table of 30_encoding.md R123, and four illegal ones (R124). -/
def Obligations.CommandWordsDecode : Prop :=
  decode 0b00000000000000000000000000000000#32 = some .nop ∧
  decode 0b00000000000000000000000000000001#32 = some .keyexp ∧
  decode 0b00000000000000000000000000000010#32 = some .ecbEnc ∧
  decode 0b00000000000000000000000000000011#32 = some .ecbDec ∧
  decode 0b00000000000000000000000000000100#32 = some .ctr ∧
  decode 0b00000000000000000000000000000101#32 = some .zeroize ∧
  decode 0x00000006#32 = none ∧ decode 0x0000000F#32 = none ∧
  decode 0x00000011#32 = none ∧ decode 0x80000000#32 = none

/-- Decoding the word of a well-formed command gives the command back. -/
def Obligations.EncodedCommandDecodesBack : Prop :=
  ∀ i : Instr, i.wf = true → decode (encode i) = some i

/-- 30_encoding.md R122: the decoder, case by case, and exactly the words 0 to 5 decode to a command. -/
def Obligations.DecoderAcceptsExactlySixWords : Prop :=
  ∀ v : Reg32,
    (v.extractLsb' 4 28 ≠ 0 → decode v = none) ∧
    (v.extractLsb' 4 28 = 0 →
      (v.extractLsb' 0 4 = 0x0 → decode v = some .nop) ∧
      (v.extractLsb' 0 4 = 0x1 → decode v = some .keyexp) ∧
      (v.extractLsb' 0 4 = 0x2 → decode v = some .ecbEnc) ∧
      (v.extractLsb' 0 4 = 0x3 → decode v = some .ecbDec) ∧
      (v.extractLsb' 0 4 = 0x4 → decode v = some .ctr) ∧
      (v.extractLsb' 0 4 = 0x5 → decode v = some .zeroize) ∧
      (6 ≤ (v.extractLsb' 0 4).toNat → decode v = none)) ∧
    ((∃ i, decode v = some i) ↔ v.toNat ≤ 5)

/-- When the host moves and its next access is a CMD write of a word that decodes to `i`, the step is `exec i`, on the
state with the turn and the access used up and the OKAY reply logged; and `withFetchWord` sets up such a step. -/
def Obligations.StepRunsDecodedCommand : Prop :=
  (∀ (s : State) (w : Reg32) (i : Instr) (rest : List HostOp),
    nextTurn s = .host →
    s.program = .access (.write (s.platform.coreBase + 0x08) 4 w) :: rest →
    decode w = some i →
    step s = exec i { s with
      program := rest
      turns := s.turns.tail
      replies := { access := .write (s.platform.coreBase + 0x08) 4 w, response := .okay, value := none } ::
        s.replies }) ∧
  (∀ (s : State) (nbits w : Nat) (i : Instr),
    decodeTableWord nbits w = some i →
    let a : HostAccess := .write (s.platform.coreBase + 0x08) 4 (BitVec.ofNat 32 (w % 2 ^ nbits))
    step (s.withFetchWord nbits w) = exec i { s with
      replies := { access := a, response := .okay, value := none } :: s.replies })

/-! ### Commands -/

/-- 45_commands.md R260: a CMD write makes its checks in this order, and a rejected write changes only ERR and
ERRCODE. -/
def Obligations.CmdWriteChecksInOrder : Prop :=
  ∀ (s : State) (v : Reg32),
    writeReg .cmd v s = .next (
      if s.inflight ≠ none then raiseCmdError .busy s
      else match decode v with
        | none => raiseCmdError .illegalCmd s
        | some i =>
          if (i = .ecbEnc ∨ i = .ecbDec ∨ i = .ctr) ∧ s.keyValid = false then raiseCmdError .noKey s
          else if i = .ctr ∧ s.ctrExh = true then raiseCmdError .ctrOverflow s
          else match i with
            | .nop => s
            | .keyexp => issue .keyexp s
            | .ecbEnc => issue .ecbEnc s
            | .ecbDec => issue .ecbDec s
            | .ctr => issue .ctr s
            | .zeroize => issue .zeroize s) ∧
    ∀ c, raiseCmdError c s =
      { s with err := (raiseCmdError c s).err, errcode := (raiseCmdError c s).errcode }

/-- 45_commands.md R261: what an issue writes, and that BUSY reads 1 from then on. -/
def Obligations.IssueTakesSnapshot : Prop :=
  ∀ (op : InFlightOp) (s : State),
    issue op s = { s with
      inflight := some { op := op, key := s.key, rk := s.rk, din := s.din, ctr := s.ctr }
      done := false
      keyValid := if op = .keyexp ∨ op = .zeroize then false else s.keyValid } ∧
    (statusWord (issue op s)).getLsbD 0 = true

/-- 60_exceptions.md R303: recording an error, the first one kept; with the codes of R300. -/
def Obligations.FirstErrorIsKept : Prop :=
  (∀ (c : CmdError) (s : State),
    raiseCmdError c s = if s.err = false then { s with err := true, errcode := c.code } else s) ∧
  CmdError.code .illegalCmd = 0x1 ∧ CmdError.code .busy = 0x2 ∧
  CmdError.code .noKey = 0x3 ∧ CmdError.code .ctrOverflow = 0x4

/-- 45_commands.md R265. -/
def Obligations.NopHasNoEffect : Prop :=
  decode 0x00000000#32 = some .nop ∧
  ∀ s : State,
    (s.inflight = none → exec .nop s = .next s) ∧
    (s.inflight ≠ none → exec .nop s = .next (raiseCmdError .busy s))

/-- 45_commands.md R270, R271: KEYEXP is issued, and at its completion the store holds the expansion of the key. -/
def Obligations.KeyexpFillsRoundKeyStore : Prop :=
  decode 0x00000001#32 = some .keyexp ∧
  ∀ s : State,
    (s.inflight ≠ none → exec .keyexp s = .next (raiseCmdError .busy s)) ∧
    (s.inflight = none → ∃ t,
      exec .keyexp s = .next t ∧
      t = { s with
        inflight := some { op := .keyexp, key := s.key, rk := s.rk, din := s.din, ctr := s.ctr }
        done := false
        keyValid := false } ∧
      ∀ ts, step { t with turns := .sequencer :: ts } = .next { s with
        rk := expand s.key
        keyValid := true
        done := true
        inflight := none
        turns := ts })

/-- 45_commands.md R275: ECB_ENC is issued, and at its completion dout is the encryption of din. -/
def Obligations.EcbEncEncryptsDin : Prop :=
  decode 0x00000002#32 = some .ecbEnc ∧
  ∀ s : State,
    (s.inflight ≠ none → exec .ecbEnc s = .next (raiseCmdError .busy s)) ∧
    (s.inflight = none → s.keyValid = false → exec .ecbEnc s = .next (raiseCmdError .noKey s)) ∧
    (s.inflight = none → s.keyValid = true → ∃ t,
      exec .ecbEnc s = .next t ∧
      t = { s with
        inflight := some { op := .ecbEnc, key := s.key, rk := s.rk, din := s.din, ctr := s.ctr }
        done := false } ∧
      ∀ ts, step { t with turns := .sequencer :: ts } = .next { s with
        dout := encrypt s.rk s.din
        done := true
        inflight := none
        turns := ts })

/-- 45_commands.md R277: ECB_DEC is issued, at its completion dout is the decryption of din, and a din that is the
encryption of a block under the same round keys gives the block back. -/
def Obligations.EcbDecDecryptsDin : Prop :=
  decode 0x00000003#32 = some .ecbDec ∧
  ∀ s : State,
    (s.inflight ≠ none → exec .ecbDec s = .next (raiseCmdError .busy s)) ∧
    (s.inflight = none → s.keyValid = false → exec .ecbDec s = .next (raiseCmdError .noKey s)) ∧
    (s.inflight = none → s.keyValid = true → ∃ t,
      exec .ecbDec s = .next t ∧
      t = { s with
        inflight := some { op := .ecbDec, key := s.key, rk := s.rk, din := s.din, ctr := s.ctr }
        done := false } ∧
      (∀ ts, step { t with turns := .sequencer :: ts } = .next { s with
        dout := decrypt s.rk s.din
        done := true
        inflight := none
        turns := ts }) ∧
      ∀ p, s.din = encrypt s.rk p → (complete t).dout = p)

/-- 45_commands.md R280, R281: CTR is issued; at its completion dout is din xor the keystream block, byte by byte, and
the counter field counts by one without touching the IV, or CTR_EXH is set. -/
def Obligations.CtrEncryptsAndCounts : Prop :=
  decode 0x00000004#32 = some .ctr ∧
  ∀ s : State,
    (s.inflight ≠ none → exec .ctr s = .next (raiseCmdError .busy s)) ∧
    (s.inflight = none → s.keyValid = false → exec .ctr s = .next (raiseCmdError .noKey s)) ∧
    (s.inflight = none → s.keyValid = true → s.ctrExh = true →
      exec .ctr s = .next (raiseCmdError .ctrOverflow s)) ∧
    (s.inflight = none → s.keyValid = true → s.ctrExh = false → ∃ t,
      exec .ctr s = .next t ∧
      t = { s with
        inflight := some { op := .ctr, key := s.key, rk := s.rk, din := s.din, ctr := s.ctr }
        done := false } ∧
      ∀ ts, ∃ u, step { t with turns := .sequencer :: ts } = .next u ∧
        u = { s with
          dout := u.dout
          ctr := u.ctr
          ctrExh := u.ctrExh
          done := true
          inflight := none
          turns := ts } ∧
        (∀ i, u.dout.byte i = s.din.byte i ^^^ (encrypt s.rk s.ctr).byte i) ∧
        ((counterField s.ctr).toNat = 2 ^ 64 - 1 → u.ctrExh = true ∧ u.ctr = s.ctr) ∧
        ((counterField s.ctr).toNat ≠ 2 ^ 64 - 1 →
          u.ctrExh = false ∧
          (counterField u.ctr).toNat = (counterField s.ctr).toNat + 1 ∧
          u.ctr.q0 = s.ctr.q0 ∧ u.ctr.q1 = s.ctr.q1))

/-- 45_commands.md R290, R291: ZEROIZE is issued, and at its completion every data register and the store are zero. -/
def Obligations.ZeroizeErasesSecrets : Prop :=
  decode 0x00000005#32 = some .zeroize ∧
  ∀ s : State,
    (s.inflight ≠ none → exec .zeroize s = .next (raiseCmdError .busy s)) ∧
    (s.inflight = none → ∃ t,
      exec .zeroize s = .next t ∧
      t = { s with
        inflight := some { op := .zeroize, key := s.key, rk := s.rk, din := s.din, ctr := s.ctr }
        done := false
        keyValid := false } ∧
      ∀ ts, ∃ u, step { t with turns := .sequencer :: ts } = .next u ∧
        u = { s with
          key := u.key, rk := u.rk, din := u.din, dout := u.dout, ctr := u.ctr
          keyValid := false
          ctrExh := false
          done := true
          inflight := none
          turns := ts } ∧
        (∀ i, u.key.byte i = 0x00) ∧
        (∀ (r : Fin 15) (i : Fin 16), (u.rk[r]).byte i = 0x00) ∧
        (∀ i, u.din.byte i = 0x00) ∧ (∀ i, u.dout.byte i = 0x00) ∧ (∀ i, u.ctr.byte i = 0x00) ∧
        (s.err = false → s.errcode = 0 → statusWord u = 0x00000002#32))

/-- The frame of every command write: only the in-flight record, DONE, KEY_VALID, ERR and ERRCODE can change. A write
that records an error changes nothing else, one that issues leaves ERR and ERRCODE alone, KEY_VALID falls only at KEYEXP
and ZEROIZE, and every register but STATUS and DOUTj reads as before. -/
def Obligations.CommandWriteFrame : Prop :=
  ∀ (i : Instr) (s t : State), exec i s = .next t →
    t = { s with
      inflight := t.inflight
      done := t.done
      keyValid := t.keyValid
      err := t.err
      errcode := t.errcode } ∧
    (t.inflight = s.inflight → t.done = s.done ∧ t.keyValid = s.keyValid) ∧
    (t.inflight ≠ s.inflight → t.err = s.err ∧ t.errcode = s.errcode ∧ t.done = false ∧ i ≠ .nop) ∧
    (t.keyValid ≠ s.keyValid → (i = .keyexp ∨ i = .zeroize) ∧ t.keyValid = false) ∧
    (∀ r : Reg, r ≠ .status → (∀ j, r ≠ .dout j) → (readReg r t).1 = (readReg r s).1)

/-- The effects at completion, by command (the table of 45_commands.md section 7, which the spec derives from the
command rules), in states where the snapshot is the live registers; and BUSY is 0 after every completion. -/
def Obligations.CompletionEffects : Prop :=
  ∀ (s : State) (f : InFlight), s.Inv → s.inflight = some f → nextTurn s = .sequencer →
    ∃ u, step s = .next u ∧ (statusWord u).getLsbD 0 = false ∧
    (f.op = .keyexp → u = { s with
      rk := expand s.key, keyValid := true, done := true, inflight := none, turns := s.turns.tail }) ∧
    (f.op = .ecbEnc → u = { s with
      dout := encrypt s.rk s.din, done := true, inflight := none, turns := s.turns.tail }) ∧
    (f.op = .ecbDec → u = { s with
      dout := decrypt s.rk s.din, done := true, inflight := none, turns := s.turns.tail }) ∧
    (f.op = .ctr → u = { s with
      dout := blockXor s.din (encrypt s.rk s.ctr)
      ctr := if counterField s.ctr = BitVec.allOnes 64 then s.ctr
        else withCounter s.ctr (counterField s.ctr + 1)
      ctrExh := if counterField s.ctr = BitVec.allOnes 64 then true else s.ctrExh
      done := true, inflight := none, turns := s.turns.tail }) ∧
    (f.op = .zeroize → u = { s with
      key := Key.zero, rk := Sched.zero, din := Block.zero, dout := Block.zero, ctr := Block.zero
      keyValid := false, ctrExh := false, done := true, inflight := none, turns := s.turns.tail })

/-! ### Registers and the bus -/

/-- 10_state.md R33: the CTRL write and the CTRL read. -/
def Obligations.CtrlReadAndWrite : Prop :=
  ∀ s : State,
    (∀ v, writeReg .ctrl v s = .next { s with ieDone := v.getLsbD 0, ieErr := v.getLsbD 1 }) ∧
    (readReg .ctrl s).2 = s ∧
    (readReg .ctrl s).1.getLsbD 0 = s.ieDone ∧
    (readReg .ctrl s).1.getLsbD 1 = s.ieErr ∧
    (∀ i, 2 ≤ i → (readReg .ctrl s).1.getLsbD i = false)

/-- 10_state.md R34: the fields of STATUS as it reads, and as it reads at reset. -/
def Obligations.StatusReadLayout : Prop :=
  (∀ s : State,
    (readReg .status s).2 = s ∧
    (readReg .status s).1.getLsbD 0 = s.inflight.isSome ∧
    (readReg .status s).1.getLsbD 1 = s.done ∧
    (readReg .status s).1.getLsbD 2 = s.err ∧
    (readReg .status s).1.getLsbD 3 = s.keyValid ∧
    (readReg .status s).1.getLsbD 4 = s.ctrExh ∧
    (readReg .status s).1.extractLsb' 5 3 = 0 ∧
    (readReg .status s).1.extractLsb' 8 4 = s.errcode ∧
    (readReg .status s).1.extractLsb' 12 20 = 0) ∧
  (readReg .status State.reset).1 = 0x00000000#32

/-- 10_state.md R35: the STATUS write, whatever is in flight. -/
def Obligations.StatusWriteOneToClear : Prop :=
  ∀ (s : State) (v : Reg32), ∃ t, writeReg .status v s = .next t ∧
    t = { s with done := t.done, err := t.err, errcode := t.errcode } ∧
    (v.getLsbD 1 = true → t.done = false) ∧
    (v.getLsbD 1 = false → t.done = s.done) ∧
    (v.getLsbD 2 = true → t.err = false ∧ t.errcode = 0) ∧
    (v.getLsbD 2 = false → t.err = s.err ∧ t.errcode = s.errcode)

/-- 10_state.md R42: a KEYj write stores its four bytes and clears KEY_VALID, or is rejected with BUSY; KEYj reads 0;
the reset value. -/
def Obligations.KeyWriteClearsKeyValid : Prop :=
  (∀ (s : State) (j : Fin 8) (v : Reg32),
    (s.inflight = none → ∃ t, writeReg (.key j) v s = .next t ∧
      t = { s with key := t.key, keyValid := false } ∧
      pack t.key[j] = v ∧
      t.key[j] = ⟨v.extractLsb' 24 8, v.extractLsb' 16 8, v.extractLsb' 8 8, v.extractLsb' 0 8⟩ ∧
      (∀ k : Fin 8, k ≠ j → t.key[k] = s.key[k]) ∧
      ∀ (k : Fin 32), t.key.byte k = (t.key[k.val / 4]'(by omega)).get ⟨k.val % 4, by omega⟩) ∧
    (s.inflight ≠ none → writeReg (.key j) v s = .next (raiseCmdError .busy s)) ∧
    readReg (.key j) s = (0x00000000#32, s)) ∧
  ∀ i, State.reset.key.byte i = 0x00

/-- 10_state.md R43: DINj. -/
def Obligations.DinHoldsInputBlock : Prop :=
  (∀ (s : State) (j : Fin 4) (v : Reg32),
    (s.inflight = none → ∃ t, writeReg (.din j) v s = .next t ∧
      t = { s with din := t.din } ∧
      t.din.get j = ⟨v.extractLsb' 24 8, v.extractLsb' 16 8, v.extractLsb' 8 8, v.extractLsb' 0 8⟩ ∧
      (∀ k, k ≠ j → t.din.get k = s.din.get k) ∧
      readReg (.din j) t = (v, t)) ∧
    (s.inflight ≠ none → writeReg (.din j) v s = .next (raiseCmdError .busy s)) ∧
    readReg (.din j) s = (pack (s.din.get j), s)) ∧
  (∀ (i : Instr) (s t : State), exec i s = .next t → t.din = s.din) ∧
  (∀ (s : State) (f : InFlight), s.inflight = some f → f.op ≠ .zeroize → (complete s).din = s.din) ∧
  ∀ i, State.reset.din.byte i = 0x00

/-- 10_state.md R44: DOUTj is written by nothing but the completions that have a result and (R340) reset, ignores host
writes, and while a command is in flight reads as a free draw. That a draw is taken by a counter, which it advances, is the
model's choice (notes/assumptions entry 7). -/
def Obligations.DoutIsReadOnly : Prop :=
  (∀ (s : State) (j : Fin 4) (v : Reg32),
    writeReg (.dout j) v s = .next s ∧
    (s.inflight = none → readReg (.dout j) s = (pack (s.dout.get j), s)) ∧
    (s.inflight ≠ none →
      readReg (.dout j) s = (Config.doutDraw s.draws, { s with draws := s.draws + 1 }))) ∧
  (∀ s t : State, step s = .next t → t.dout ≠ s.dout →
    nextTurn s = .reset ∨
    (nextTurn s = .sequencer ∧ ∃ f, s.inflight = some f ∧
      (f.op = .ecbEnc ∧ t.dout = encrypt f.rk f.din ∨
       f.op = .ecbDec ∧ t.dout = decrypt f.rk f.din ∨
       f.op = .ctr ∧ t.dout = blockXor f.din (encrypt f.rk f.ctr) ∨
       f.op = .zeroize ∧ t.dout = Block.zero))) ∧
  ∀ i, State.reset.dout.byte i = 0x00

/-- 10_state.md R45: CTRj, and the counter field as the number `{CTR2, CTR3}`. -/
def Obligations.CtrWriteClearsExhaustion : Prop :=
  (∀ (s : State) (j : Fin 4) (v : Reg32),
    (s.inflight = none → ∃ t, writeReg (.ctr j) v s = .next t ∧
      t = { s with ctr := t.ctr, ctrExh := false } ∧
      t.ctr.get j = ⟨v.extractLsb' 24 8, v.extractLsb' 16 8, v.extractLsb' 8 8, v.extractLsb' 0 8⟩ ∧
      (∀ k, k ≠ j → t.ctr.get k = s.ctr.get k) ∧
      readReg (.ctr j) t = (v, t)) ∧
    (s.inflight ≠ none → writeReg (.ctr j) v s = .next (raiseCmdError .busy s)) ∧
    readReg (.ctr j) s = (pack (s.ctr.get j), s)) ∧
  (∀ s : State,
    (counterField s.ctr).toNat = (readReg (.ctr 2) s).1.toNat * 2 ^ 32 + (readReg (.ctr 3) s).1.toNat) ∧
  ∀ i, State.reset.ctr.byte i = 0x00

/-- 60_exceptions.md R305, 20_memory.md R82 to R84: the causes of a bus error in their order, and that such an access
gets ERROR, reads 0 and changes nothing of CORE. What the platform then does is its policy (R305); how the model shows
each policy is its own choice (notes/assumptions entry 4). -/
def Obligations.BusErrorsChangeNothing : Prop :=
  (∀ off width : Nat,
    (width ≠ 4 → busSelect off width = .error .width) ∧
    (width = 4 → off % 4 ≠ 0 → busSelect off width = .error .alignment) ∧
    (width = 4 → off % 4 = 0 → (off = 0x0C ∨ 0x60 ≤ off) → busSelect off width = .error .reserved)) ∧
  ∀ (s : State) (off width : Nat) (data : Reg32) (c : BusErrorCause),
    off < 0x80 → busSelect off width = .error c →
    busRead off width s = (.error, 0x00000000#32, s) ∧
    (s.platform.busErrorPolicy = .ignore →
      hostRead (s.platform.coreBase + off) width s = .next { s with
        replies := { access := .read (s.platform.coreBase + off) width, response := .error, value := some 0 } ::
          s.replies } ∧
      hostWrite (s.platform.coreBase + off) width data s = .next { s with
        replies := { access := .write (s.platform.coreBase + off) width data, response := .error, value := none } ::
          s.replies }) ∧
    (s.platform.busErrorPolicy = .record →
      hostRead (s.platform.coreBase + off) width s = .next { s with
        replies := { access := .read (s.platform.coreBase + off) width, response := .error, value := some 0 } ::
          s.replies
        busErrorLog := (s.platform.coreBase + off) :: s.busErrorLog } ∧
      hostWrite (s.platform.coreBase + off) width data s = .next { s with
        replies := { access := .write (s.platform.coreBase + off) width data, response := .error, value := none } ::
          s.replies
        busErrorLog := (s.platform.coreBase + off) :: s.busErrorLog }) ∧
    (s.platform.busErrorPolicy = .fault →
      hostRead (s.platform.coreBase + off) width s = .fault (.busError (s.platform.coreBase + off)) ∧
      hostWrite (s.platform.coreBase + off) width data s = .fault (.busError (s.platform.coreBase + off)))

/-- 20_memory.md R81: each register has exactly one offset, that of the table of 10_state.md R31, and an accepted access
selects the register at its offset. -/
def Obligations.RegisterMapHasNoAliases : Prop :=
  (Reg.offset .ctrl = 0x00 ∧ Reg.offset .status = 0x04 ∧ Reg.offset .cmd = 0x08 ∧
    (∀ j : Fin 8, Reg.offset (.key j) = 0x10 + 4 * j.val) ∧
    (∀ j : Fin 4, Reg.offset (.din j) = 0x30 + 4 * j.val) ∧
    (∀ j : Fin 4, Reg.offset (.dout j) = 0x40 + 4 * j.val) ∧
    (∀ j : Fin 4, Reg.offset (.ctr j) = 0x50 + 4 * j.val)) ∧
  (∀ (off width : Nat) (r : Reg), busSelect off width = .ok r ↔ width = 4 ∧ off = r.offset) ∧
  (∀ r q : Reg, r.offset = q.offset → r = q) ∧
  (∀ off : Nat, off < 0x60 → off % 4 = 0 → off ≠ 0x0C → ∃ r : Reg, r.offset = off)

/-- 20_memory.md R85: a word access to the address of any register gets OKAY; the read returns the value of the register
and the write applies the register's rule; and a host step with such an access next is exactly that. How the host's
program, the turns and the replies are held is the model's choice (notes/assumptions entries 1, 2, 10). -/
def Obligations.AcceptedAccessReachesItsRegister : Prop :=
  ∀ (s : State) (r : Reg) (v : Reg32),
    let a := s.platform.coreBase + r.offset
    hostRead a 4 s = .next { (readReg r s).2 with
      replies := { access := .read a 4, response := .okay, value := some (readReg r s).1 } :: s.replies } ∧
    hostWrite a 4 v s = writeReg r v { s with
      replies := { access := .write a 4 v, response := .okay, value := none } :: s.replies } ∧
    ∀ rest, nextTurn s = .host →
      let u := { s with program := rest, turns := s.turns.tail }
      (s.program = .access (.read a 4) :: rest →
        step s = .next { (readReg r u).2 with
          replies := { access := .read a 4, response := .okay, value := some (readReg r u).1 } :: s.replies }) ∧
      (s.program = .access (.write a 4 v) :: rest →
        step s = writeReg r v { u with
          replies := { access := .write a 4 v, response := .okay, value := none } :: s.replies })

/-- An access outside the window is refused by name: the model's choice (notes/assumptions entry 9), since 20_memory.md
R80 says such an address is not CORE's. -/
def Obligations.OutsideWindowIsRefused : Prop :=
  ∀ (s : State) (addr width : Nat) (data : Reg32),
    (addr < s.platform.coreBase ∨ s.platform.coreBase + 0x80 ≤ addr) →
    hostRead addr width s = .refused (.outsideWindow addr) ∧
    hostWrite addr width data s = .refused (.outsideWindow addr)

/-- Reads, accepted or not, and poll reads leave CORE as it is (20_memory.md section 3). -/
def Obligations.ReadsHaveNoSideEffects : Prop :=
  (∀ (s t : State) (addr width : Nat), hostRead addr width s = .next t → coreOnly t = coreOnly s) ∧
  (∀ (s t : State) (addr : Nat) (mask value : Reg32) (rest : List HostOp),
    hostPoll addr mask value rest s = .next t → coreOnly t = coreOnly s)

/-- With no command in flight, a write to any register but CMD, made twice with the same value, leaves what one write
leaves (20_memory.md section 3). -/
def Obligations.RepeatedWriteIsOneWrite : Prop :=
  ∀ (r : Reg) (v : Reg32) (s t : State), r ≠ .cmd → s.inflight = none →
    writeReg r v s = .next t → writeReg r v t = .next t

/-- 60_exceptions.md R301: which accesses raise each code, that no other does, and the times at which KEY_VALID is 0
that the rule names. -/
def Obligations.AccessesThatRaiseEachCode : Prop :=
  ∀ (s : State) (v : Reg32),
    (s.inflight ≠ none →
      writeReg .cmd v s = .next (raiseCmdError .busy s) ∧
      (∀ j, writeReg (.key j) v s = .next (raiseCmdError .busy s)) ∧
      (∀ j, writeReg (.din j) v s = .next (raiseCmdError .busy s)) ∧
      (∀ j, writeReg (.ctr j) v s = .next (raiseCmdError .busy s)) ∧
      writeReg .ctrl v s = .next { s with ieDone := v.getLsbD 0, ieErr := v.getLsbD 1 } ∧
      (∃ t, writeReg .status v s = .next t ∧ (t.err = true → s.err = true)) ∧
      ∀ j, writeReg (.dout j) v s = .next s) ∧
    (s.inflight = none →
      (5 < v.toNat → writeReg .cmd v s = .next (raiseCmdError .illegalCmd s)) ∧
      (2 ≤ v.toNat → v.toNat ≤ 4 → s.keyValid = false →
        writeReg .cmd v s = .next (raiseCmdError .noKey s)) ∧
      (v.toNat = 4 → s.keyValid = true → s.ctrExh = true →
        writeReg .cmd v s = .next (raiseCmdError .ctrOverflow s)) ∧
      ∀ r t, writeReg r v s = .next t → s.err = false → t.err = true →
        r = .cmd ∧ (5 < v.toNat ∨ (2 ≤ v.toNat ∧ v.toNat ≤ 4 ∧ s.keyValid = false) ∨
          (v.toNat = 4 ∧ s.keyValid = true ∧ s.ctrExh = true))) ∧
    (∀ r, (readReg r s).2.err = s.err ∧ (readReg r s).2.errcode = s.errcode) ∧
    State.reset.keyValid = false ∧
    (s.inflight = none → ∀ j, ∃ t, writeReg (.key j) v s = .next t ∧ t.keyValid = false) ∧
    (complete (issue .zeroize s)).keyValid = false

/-- 20_memory.md R97: a command takes its operands at issue, writes to those registers are rejected while it is in
flight, and no host step then changes the captured operands, the registers they were taken from, or what the command's
completion will leave in them and in the results. -/
def Obligations.HostCannotChangeInFlightResult : Prop :=
  (∀ (op : InFlightOp) (s : State), (issue op s).inflight =
    some { op := op, key := s.key, rk := s.rk, din := s.din, ctr := s.ctr }) ∧
  (∀ (s : State) (v : Reg32), s.inflight ≠ none →
    (∀ j, writeReg (.key j) v s = .next (raiseCmdError .busy s)) ∧
    (∀ j, writeReg (.din j) v s = .next (raiseCmdError .busy s)) ∧
    ∀ j, writeReg (.ctr j) v s = .next (raiseCmdError .busy s)) ∧
  ∀ (s t : State) (f : InFlight), s.inflight = some f → nextTurn s = .host → step s = .next t →
    t.inflight = some f ∧
    t.key = s.key ∧ t.rk = s.rk ∧ t.din = s.din ∧ t.ctr = s.ctr ∧
    (complete t).key = (complete s).key ∧ (complete t).rk = (complete s).rk ∧
    (complete t).din = (complete s).din ∧ (complete t).dout = (complete s).dout ∧
    (complete t).ctr = (complete s).ctr ∧ (complete t).keyValid = (complete s).keyValid ∧
    (complete t).ctrExh = (complete s).ctrExh

/-- 20_memory.md R86: packing, unpacking, the byte in each position of each register group, KEYj as the key-schedule
word w[j] (words 0 to 3 of rk[0] and of rk[1]), and the counter field as the number `{CTR2, CTR3}`. -/
def Obligations.PackingIsBigEndian : Prop :=
  (∀ w : Word, (pack w).extractLsb' 24 8 = w.q0 ∧ (pack w).extractLsb' 16 8 = w.q1 ∧
    (pack w).extractLsb' 8 8 = w.q2 ∧ (pack w).extractLsb' 0 8 = w.q3 ∧ unpack (pack w) = w) ∧
  (∀ v : Reg32, pack (unpack v) = v) ∧
  (∀ (s : State) (j : Fin 8) (k : Fin 4),
    (pack s.key[j]).extractLsb' (8 * (3 - k.val)) 8 = s.key.byte ⟨4 * j.val + k.val, by omega⟩) ∧
  (∀ (s : State) (j : Fin 4),
    (expand s.key)[0].get j = s.key[j.val] ∧ (expand s.key)[1].get j = s.key[4 + j.val]) ∧
  (∀ s : State,
    counterField s.ctr = (readReg (.ctr 2) s).1 ++ (readReg (.ctr 3) s).1) ∧
  (∀ (s : State) (j k : Fin 4),
    (readReg (.din j) s).1.extractLsb' (8 * (3 - k.val)) 8 = s.din.byte ⟨4 * j.val + k.val, by omega⟩ ∧
    (readReg (.ctr j) s).1.extractLsb' (8 * (3 - k.val)) 8 = s.ctr.byte ⟨4 * j.val + k.val, by omega⟩ ∧
    (s.inflight = none →
      (readReg (.dout j) s).1.extractLsb' (8 * (3 - k.val)) 8 = s.dout.byte ⟨4 * j.val + k.val, by omega⟩))

/-- Reading never shows the key or the round keys: states that differ only there give every read the same reply and
the same rest (20_memory.md section 5). -/
def Obligations.KeyIsNeverReadable : Prop :=
  ∀ (s t : State) (addr width : Nat) (key : Key) (rk : Sched),
    hostRead addr width s = .next t →
    hostRead addr width { s with key := key, rk := rk } = .next { t with key := key, rk := rk }

/-- The irq output from the register words and its value at reset (10_state.md R52), and the line it drives: that
CORE_IRQ is the field platform.coreIrq is the model's choice (notes/assumptions entry 5), and the statement holds
whatever its value. -/
def Obligations.IrqFollowsStatusAndCtrl : Prop :=
  (∀ s : State, irq s =
    (((readReg .ctrl s).1.getLsbD 0 && (readReg .status s).1.getLsbD 1) ||
     ((readReg .ctrl s).1.getLsbD 1 && (readReg .status s).1.getLsbD 2))) ∧
  irq State.reset = false ∧
  ∀ (s : State) (n : Nat), irqLine n s = true ↔ n = s.platform.coreIrq ∧ irq s = true

/-! ### Reset, invariants and whole-machine rules -/

/-- 70_reset_and_hazards.md R340, R341: the state a reset turn leaves of CORE, whatever was in flight. Nothing is said
of `rk`, nor of what stands around CORE. -/
def Obligations.ResetLeavesResetState : Prop :=
  ∀ (s : State) (ts : List Turn), ∃ t, step { s with turns := .reset :: ts } = .next t ∧
    (readReg .ctrl t).1 = 0x00000000#32 ∧ (readReg .status t).1 = 0x00000000#32 ∧
    (∀ i, t.key.byte i = 0x00) ∧ (∀ i, t.din.byte i = 0x00) ∧
    (∀ i, t.dout.byte i = 0x00) ∧ (∀ i, t.ctr.byte i = 0x00) ∧
    t.inflight = none ∧ irq t = false ∧
    t = { State.reset with
      rk := t.rk, platform := t.platform, program := t.program, turns := t.turns, replies := t.replies
      busErrorLog := t.busErrorLog, draws := t.draws }

/-- What a reset turn leaves around CORE, and that rk after it is a free draw: the model's choices (notes/assumptions
entries 2, 8, 10), since the reset of 70_reset_and_hazards.md R340 is CORE's alone. -/
def Obligations.ResetKeepsTheSurroundings : Prop :=
  ∀ (s : State) (ts : List Turn), ∃ t, step { s with turns := .reset :: ts } = .next t ∧
    t.rk = Config.rkDraw s.draws ∧ t.draws = s.draws + 1 ∧ t.platform = s.platform ∧ t.program = s.program ∧
    t.turns = ts ∧ t.replies = s.replies ∧ t.busErrorLog = s.busErrorLog

/-- The reset state meets the invariant, whatever `rk` holds (its value in State.reset is the model's choice,
notes/assumptions entry 8), and wherever the platform puts the window. -/
def Obligations.ResetMeetsInvariant : Prop :=
  ∀ (rk : Sched) (p : Platform), p.wf = true → { State.reset with rk := rk, platform := p }.Inv

/-- Every step keeps the invariant: rk is the expansion of the key while KEY_VALID = 1, the snapshot is the live
registers, ERRCODE is 0 or a known code, and the flags of a command in flight are as its issue left them. -/
def Obligations.StepKeepsInvariant : Prop :=
  ∀ s t : State, s.Inv → step s = .next t → t.Inv

/-- While KEY_VALID = 0 the contents of the round-key store are not observable: with any other contents the step is
the same, and leaves the same state but for the store, or the very same state (70_reset_and_hazards.md R342). -/
def Obligations.UnspecifiedRoundKeysNeverObserved : Prop :=
  ∀ (s : State) (rk : Sched), s.Inv → s.keyValid = false →
    (∀ t, step s = .next t →
      step (withRk rk s) = .next t ∨ (t.keyValid = false ∧ step (withRk rk s) = .next (withRk rk t))) ∧
    (∀ f, step s = .fault f → step (withRk rk s) = .fault f) ∧
    (∀ r, step s = .refused r → step (withRk rk s) = .refused r)

/-- KEY_VALID rises only at the completion of KEYEXP, and falls only at reset, at the issue of KEYEXP or ZEROIZE, or at
an accepted KEYj write (10_state.md R39). -/
def Obligations.KeyValidChangesByItsRules : Prop :=
  ∀ s t : State, s.Inv → step s = .next t →
    (s.keyValid = false → t.keyValid = true →
      nextTurn s = .sequencer ∧ ∃ f, s.inflight = some f ∧ f.op = .keyexp) ∧
    (s.keyValid = true → t.keyValid = false →
      nextTurn s = .reset ∨
      (nextTurn s = .host ∧ s.inflight = none ∧
        ((∃ f, t.inflight = some f ∧ (f.op = .keyexp ∨ f.op = .zeroize)) ∨
         ∃ j v rest, s.program =
           .access (.write (s.platform.coreBase + (Reg.key j).offset) 4 v) :: rest)))

/-- The round-key store is written only by the completions of KEYEXP and ZEROIZE, and by reset (10_state.md R49,
70_reset_and_hazards.md R340). -/
def Obligations.RoundKeyStoreWriters : Prop :=
  ∀ s t : State, step s = .next t → t.rk ≠ s.rk →
    nextTurn s = .reset ∨
    (nextTurn s = .sequencer ∧ ∃ f, s.inflight = some f ∧
      (f.op = .keyexp ∧ t.rk = expand f.key ∨ f.op = .zeroize ∧ t.rk = Sched.zero))

/-- A recorded error stays, with its code, until a STATUS write with bit 2 set or a reset (10_state.md R38). -/
def Obligations.ErrorStaysUntilCleared : Prop :=
  ∀ s t : State, step s = .next t → s.err = true →
    (t.err = true → t.errcode = s.errcode) ∧
    (t.err = false → nextTurn s = .reset ∨
      (nextTurn s = .host ∧ ∃ v rest,
        s.program = .access (.write (s.platform.coreBase + Reg.status.offset) 4 v) :: rest ∧ v.getLsbD 2 = true))

/-- 10_state.md R37: DONE is set by every completion and by nothing else; it is cleared by an issue, by a STATUS write
with bit 1 set, by reset, and by nothing else; a rejected command leaves it alone. -/
def Obligations.DoneChangesByItsRules : Prop :=
  (∀ s : State, s.inflight ≠ none → nextTurn s = .sequencer → ∃ t, step s = .next t ∧ t.done = true) ∧
  (∀ (op : InFlightOp) (s : State), (issue op s).done = false) ∧
  (∀ (s : State) (v : Reg32), v.getLsbD 1 = true → ∃ t, writeReg .status v s = .next t ∧ t.done = false) ∧
  (∀ s : State, nextTurn s = .reset → ∃ t, step s = .next t ∧ t.done = false) ∧
  (∀ (c : CmdError) (s : State), (raiseCmdError c s).done = s.done) ∧
  ∀ s t : State, step s = .next t →
    (s.done = false → t.done = true → nextTurn s = .sequencer ∧ s.inflight ≠ none) ∧
    (s.done = true → t.done = false → nextTurn s = .reset ∨
      (nextTurn s = .host ∧
        ((s.inflight = none ∧ t.inflight ≠ none) ∨ ∃ v rest, s.program =
          .access (.write (s.platform.coreBase + Reg.status.offset) 4 v) :: rest ∧ v.getLsbD 1 = true)))

/-- 10_state.md R36: BUSY is 1 exactly while a command is in flight; it rises only at a CMD write of an accepted
command other than NOP, and falls only at a completion or at reset. -/
def Obligations.BusyRisesAndFallsByItsRules : Prop :=
  (∀ s : State, (readReg .status s).1.getLsbD 0 = true ↔ s.inflight ≠ none) ∧
  (∀ s t : State, step s = .next t → s.inflight = none → t.inflight ≠ none →
    nextTurn s = .host ∧ ∃ v rest i op,
      s.program = .access (.write (s.platform.coreBase + Reg.cmd.offset) 4 v) :: rest ∧
      decode v = some i ∧ i = instrOf op ∧
      t.inflight = some { op := op, key := s.key, rk := s.rk, din := s.din, ctr := s.ctr }) ∧
  (∀ (s : State) (op : InFlightOp), (issue op s).inflight ≠ none) ∧
  (∀ s t : State, step s = .next t → s.inflight ≠ none →
    (t.inflight = none ↔ nextTurn s = .sequencer ∨ nextTurn s = .reset)) ∧
  (∀ s t : State, exec .nop s = .next t → t.inflight = s.inflight)

/-- A command in flight completes, with DONE set, within as many steps as the scheduler has choices left and one more,
when no reset comes (45_commands.md R263) and the host makes no access at which the model stops. The bound rests on the
model's scheduler (notes/assumptions entry 1). -/
def Obligations.InFlightCommandCompletes : Prop :=
  ∀ s : State, HostOk s → s.inflight ≠ none → Turn.reset ∉ s.turns →
    ∃ n t, n ≤ s.turns.length + 1 ∧ core.run n s = .next t ∧ t.inflight = none ∧ t.done = true

/-- A machine whose host stays in the window, on a platform that does not fault at an ERROR response, never stops. -/
def Obligations.HostInWindowNeverStops : Prop :=
  ∀ s : State, HostOk s → ∃ t, step s = .next t ∧ HostOk t

/-! ### The cipher -/

/-- 40_gf256.md R152: the doubling. -/
def Obligations.XtimeShiftsAndReduces : Prop :=
  ∀ b : Byte,
    ((b.setWidth 9 <<< 1).getLsbD 8 = true → xtime b = (b.setWidth 9 <<< 1).setWidth 8 ^^^ 0x1B#8) ∧
    ((b.setWidth 9 <<< 1).getLsbD 8 = false → xtime b = (b.setWidth 9 <<< 1).setWidth 8)

/-- The arithmetic laws of 40_gf256.md section 3, and multiplication by x, which ties gmul to this field's doubling. -/
def Obligations.GmulFieldLaws : Prop :=
  (∀ a : Byte, gmul a 0x02#8 = xtime a) ∧
  (∀ a b : Byte, gmul a b = gmul b a) ∧
  (∀ a b c : Byte, gmul (gmul a b) c = gmul a (gmul b c)) ∧
  (∀ a b c : Byte, gmul a (b ^^^ c) = gmul a b ^^^ gmul a c) ∧
  (∀ a : Byte, gmul a 0x01#8 = a) ∧
  (∀ a b : Byte, gmul a b = 0x00#8 ↔ a = 0x00#8 ∨ b = 0x00#8)

/-- Every byte but 0 has exactly one inverse, and `ginv` is it (40_gf256.md section 3). -/
def Obligations.GinvIsTheInverse : Prop :=
  ∀ a : Byte, a ≠ 0x00#8 →
    gmul a (ginv a) = 0x01#8 ∧ ∀ y, gmul a y = 0x01#8 → y = ginv a

/-- 41_sbox.md R175: sub is a bijection, and invSub undoes it. -/
def Obligations.SboxIsBijective : Prop :=
  Function.Bijective sub ∧ ∀ b : Byte, invSub (sub b) = b

/-- Every entry of S-ROM is the affine map of the inverse of its address (41_sbox.md section 3). The table, the map and
the inverse of 0 are general knowledge in the spec too (notes/assumptions entries 12, 15). -/
def Obligations.SboxMatchesItsAlgebra : Prop :=
  ∀ b : Byte, sub b = affine (ginv b)

/-- 43_round_transforms.md R211, R212, R217: the transforms that act byte by byte. -/
def Obligations.BytewiseTransforms : Prop :=
  ∀ (s k : Block) (i : Fin 16),
    (byteSub s).byte i = sub (s.byte i) ∧
    (invByteSub s).byte i = invSub (s.byte i) ∧
    (roundKeyAdd s k).byte i = s.byte i ^^^ k.byte i

/-- 43_round_transforms.md R213, R214: the row rotations, by grid position and as byte permutations. -/
def Obligations.RowShiftRotatesRows : Prop :=
  ∀ s : Block,
    (∀ r c : Fin 4, ((rowShift s).get c).get r = (s.get (c + r)).get r) ∧
    (∀ r c : Fin 4, ((invRowShift s).get c).get r = (s.get (c - r)).get r) ∧
    (∀ i : Fin 16, (rowShift s).byte i =
      s.byte ((#v[0, 5, 10, 15, 4, 9, 14, 3, 8, 13, 2, 7, 12, 1, 6, 11] : Vector (Fin 16) 16)[i])) ∧
    (∀ i : Fin 16, (invRowShift s).byte i =
      s.byte ((#v[0, 13, 10, 7, 4, 1, 14, 11, 8, 5, 2, 15, 12, 9, 6, 3] : Vector (Fin 16) 16)[i]))

/-- 43_round_transforms.md R215, R216: each column times the matrix, with the products written `gmul(M[i][k], a[k])`. -/
def Obligations.ColumnMixMultipliesColumns : Prop :=
  ∀ (s : Block) (c : Fin 4),
    let a := s.get c
    (columnMix s).get c =
      ⟨gmul 2 a.q0 ^^^ gmul 3 a.q1 ^^^ gmul 1 a.q2 ^^^ gmul 1 a.q3,
       gmul 1 a.q0 ^^^ gmul 2 a.q1 ^^^ gmul 3 a.q2 ^^^ gmul 1 a.q3,
       gmul 1 a.q0 ^^^ gmul 1 a.q1 ^^^ gmul 2 a.q2 ^^^ gmul 3 a.q3,
       gmul 3 a.q0 ^^^ gmul 1 a.q1 ^^^ gmul 1 a.q2 ^^^ gmul 2 a.q3⟩ ∧
    (invColumnMix s).get c =
      ⟨gmul 14 a.q0 ^^^ gmul 11 a.q1 ^^^ gmul 13 a.q2 ^^^ gmul 9 a.q3,
       gmul 9 a.q0 ^^^ gmul 14 a.q1 ^^^ gmul 11 a.q2 ^^^ gmul 13 a.q3,
       gmul 13 a.q0 ^^^ gmul 9 a.q1 ^^^ gmul 14 a.q2 ^^^ gmul 11 a.q3,
       gmul 11 a.q0 ^^^ gmul 13 a.q1 ^^^ gmul 9 a.q2 ^^^ gmul 14 a.q3⟩

/-- Each transform and its inverse undo each other, both ways (43_round_transforms.md sections 2 to 5). -/
def Obligations.RoundTransformsAreInvertible : Prop :=
  ∀ s k : Block,
    invByteSub (byteSub s) = s ∧ byteSub (invByteSub s) = s ∧
    invRowShift (rowShift s) = s ∧ rowShift (invRowShift s) = s ∧
    invColumnMix (columnMix s) = s ∧ columnMix (invColumnMix s) = s ∧
    roundKeyAdd (roundKeyAdd s k) k = s

/-- 42_key_schedule.md R190 to R194, R196: the entries of RCON-ROM, SubWord and RotWord byte by byte, the initial words,
the recurrence, and the grouping into round keys. -/
def Obligations.KeyScheduleRecurrence : Prop :=
  (rconRom.length = 14 ∧ rcon 0 = 0x01#8 ∧ (∀ i, i < 13 → rcon (i + 1) = xtime (rcon i)) ∧
    (List.range 14).map rcon =
      [0x01, 0x02, 0x04, 0x08, 0x10, 0x20, 0x40, 0x80, 0x1b, 0x36, 0x6c, 0xd8, 0xab, 0x4d]) ∧
  (∀ w : Word, subWord w = ⟨sub w.q0, sub w.q1, sub w.q2, sub w.q3⟩ ∧ rotWord w = ⟨w.q1, w.q2, w.q3, w.q0⟩ ∧
    pack (rotWord w) = (pack w).rotateLeft 8) ∧
  ∀ key : Key, ∃ w : Nat → Word,
    (∀ j : Fin 8, w j = ⟨key.byte ⟨4 * j.val, by omega⟩, key.byte ⟨4 * j.val + 1, by omega⟩,
      key.byte ⟨4 * j.val + 2, by omega⟩, key.byte ⟨4 * j.val + 3, by omega⟩⟩) ∧
    (∀ i, 8 ≤ i → i ≤ 59 →
      (i % 8 = 0 → w i = wordXor (w (i - 8))
        { subWord (rotWord (w (i - 1))) with
          q0 := (subWord (rotWord (w (i - 1)))).q0 ^^^ rcon (i / 8 - 1) }) ∧
      (i % 8 = 4 → w i = wordXor (w (i - 8)) (subWord (w (i - 1)))) ∧
      (i % 8 ≠ 0 → i % 8 ≠ 4 → w i = wordXor (w (i - 8)) (w (i - 1)))) ∧
    (∀ (r : Fin 15) (c : Fin 4), ((expand key)[r]).get c = w (4 * r.val + c.val))

/-- 44_block_cipher.md R240, R241: the rounds of Encrypt and of Decrypt, one after another. -/
def Obligations.FourteenRounds : Prop :=
  ∀ (rk : Sched) (b : Block),
    (∃ s : Nat → Block,
      s 0 = roundKeyAdd b rk[0] ∧
      (∀ r : Fin 15, 1 ≤ r.val → r.val ≤ 13 →
        s r = roundKeyAdd (columnMix (rowShift (byteSub (s (r.val - 1))))) rk[r]) ∧
      encrypt rk b = roundKeyAdd (rowShift (byteSub (s 13))) rk[14]) ∧
    (∃ s : Nat → Block,
      s 14 = invByteSub (invRowShift (roundKeyAdd b rk[14])) ∧
      (∀ r : Fin 15, 1 ≤ r.val → r.val ≤ 13 →
        s r = invByteSub (invRowShift (invColumnMix (roundKeyAdd (s (r.val + 1)) rk[r])))) ∧
      decrypt rk b = roundKeyAdd (s 1) rk[0])

/-- Decrypt undoes Encrypt and Encrypt undoes Decrypt, for every schedule, so for every expanded key
(44_block_cipher.md section 3). -/
def Obligations.DecryptUndoesEncrypt : Prop :=
  ∀ (rk : Sched) (p : Block), decrypt rk (encrypt rk p) = p ∧ encrypt rk (decrypt rk p) = p

/-! ### The ECB and CTR wrappers -/

/-- 45_commands.md R276: KEYEXP and then one ECB_ENC a block computes the ECB encryption of any message of whole
blocks, each block alone; and the same with ECB_DEC on the result gives the message back. -/
def Obligations.EcbCommandsComputeMessage : Prop :=
  ∀ (s : State) (ms : List Block), s.inflight = none →
    ∃ t u v, exec .keyexp s = .next t ∧
      runBlocks .ecbEnc ms (complete t) = .next (u, ms.map (encrypt (expand s.key))) ∧
      runBlocks .ecbDec (ms.map (encrypt (expand s.key))) u = .next (v, ms)

/-- One CTR a block computes the CTR message from the counter block in CTR0 to CTR3, for any message whose counters
stay below 2^64 (45_commands.md R282). -/
def Obligations.CtrCommandsComputeMessage : Prop :=
  ∀ (s : State) (ms : List Block),
    s.inflight = none → s.keyValid = true → s.rk = expand s.key → s.ctrExh = false →
    (counterField s.ctr).toNat + ms.length ≤ 2 ^ 64 →
    ∃ t, runBlocks .ctr ms s = .next (t, ctrMessage s.key s.ctr ms)

/-- CTR decryption is the same operation from the same counter block (45_commands.md R282). -/
def Obligations.CtrMessageIsItsOwnInverse : Prop :=
  ∀ (key : Key) (n : Block) (ms : List Block), ctrMessage key n (ctrMessage key n ms) = ms
end

