-- ==== Sys2Proof/Laws/Operands.lean ====
section
/-! SUPPORT. Positions of a Quad, packing and the counter field. -/

namespace Sys2Proof

variable {α : Type}

theorem Quad.get_set (q : Quad α) (i j : Fin 4) (a : α) :
    (q.set i a).get j = if j = i then a else q.get j := by
  fin_cases i <;> fin_cases j <;> rfl

@[simp] theorem Quad.set_get (q : Quad α) (i : Fin 4) : q.set i (q.get i) = q := by
  fin_cases i <;> rfl

@[simp] theorem Quad.set_set (q : Quad α) (i : Fin 4) (a b : α) : (q.set i a).set i b = q.set i b := by
  fin_cases i <;> rfl

theorem Quad.ext_get {p q : Quad α} (h : ∀ i, p.get i = q.get i) : p = q :=
  Quad.ext (h 0) (h 1) (h 2) (h 3)

end Sys2Proof

namespace Sys2Proof.Machine

@[simp] theorem pack_unpack (v : Reg32) : pack (unpack v) = v := by
  apply BitVec.eq_of_getLsbD_eq
  intro i hi
  simp only [pack, unpack, BitVec.getLsbD_append, BitVec.getLsbD_extractLsb']
  split
  · simp [*]
  · split
    · rw [decide_eq_true (by omega)]; simp; congr 1; omega
    · split <;> (rw [decide_eq_true (by omega)]; simp; congr 1; omega)

@[simp] theorem unpack_pack (w : Word) : unpack (pack w) = w := by
  obtain ⟨a, b, c, d⟩ := w
  simp only [pack, unpack, Quad.mk.injEq]
  refine ⟨?_, ?_, ?_, ?_⟩ <;> apply BitVec.eq_of_getLsbD_eq <;> intro i hi <;>
    simp only [BitVec.getLsbD_append, BitVec.getLsbD_extractLsb', hi, decide_true, Bool.true_and]
  · rw [if_neg (by omega), if_neg (by omega), if_neg (by omega)]; congr 1; omega
  · rw [if_neg (by omega), if_neg (by omega), if_pos (by omega)]; congr 1; omega
  · rw [if_neg (by omega), if_pos (by omega)]; congr 1; omega
  · rw [if_pos (by omega)]; congr 1; omega

theorem append_halves (c : BitVec 64) : c.extractLsb' 32 32 ++ c.extractLsb' 0 32 = c := by
  apply BitVec.eq_of_getLsbD_eq
  intro i hi
  simp only [BitVec.getLsbD_append, BitVec.getLsbD_extractLsb']
  split
  · simp [*]
  · rw [decide_eq_true (by omega)]; simp; congr 1; omega

@[simp] theorem counterField_withCounter (b : Block) (c : BitVec 64) : counterField (withCounter b c) = c := by
  simp only [counterField, withCounter, pack_unpack, append_halves]

theorem high_append (x y : Reg32) : (x ++ y).extractLsb' 32 32 = x := by
  apply BitVec.eq_of_getLsbD_eq
  intro i hi
  simp only [BitVec.getLsbD_append, BitVec.getLsbD_extractLsb', hi, decide_true, Bool.true_and]
  rw [if_neg (by omega)]; congr 1; omega

theorem low_append (x y : Reg32) : (x ++ y).extractLsb' 0 32 = y := by
  apply BitVec.eq_of_getLsbD_eq
  intro i hi
  simp only [BitVec.getLsbD_append, BitVec.getLsbD_extractLsb', hi, decide_true, Bool.true_and]
  rw [if_pos (by omega)]; congr 1; omega

@[simp] theorem withCounter_counterField (b : Block) : withCounter b (counterField b) = b := by
  simp only [withCounter, counterField, high_append, low_append, unpack_pack]

end Sys2Proof.Machine
end

