-- ==== Sys2Proof/Laws/State.lean ====
section
/-! SUPPORT. What each named update of the state leaves in each field. -/

namespace Sys2Proof.Machine

variable (s : State)

@[simp] theorem raiseCmdError_ieDone (c : CmdError) : (raiseCmdError c s).ieDone = s.ieDone := rfl
@[simp] theorem raiseCmdError_ieErr (c : CmdError) : (raiseCmdError c s).ieErr = s.ieErr := rfl
@[simp] theorem raiseCmdError_done (c : CmdError) : (raiseCmdError c s).done = s.done := rfl
@[simp] theorem raiseCmdError_err (c : CmdError) : (raiseCmdError c s).err = true := rfl
@[simp] theorem raiseCmdError_errcode (c : CmdError) : (raiseCmdError c s).errcode = if s.err then s.errcode else c.code := rfl
@[simp] theorem raiseCmdError_keyValid (c : CmdError) : (raiseCmdError c s).keyValid = s.keyValid := rfl
@[simp] theorem raiseCmdError_ctrExh (c : CmdError) : (raiseCmdError c s).ctrExh = s.ctrExh := rfl
@[simp] theorem raiseCmdError_key (c : CmdError) : (raiseCmdError c s).key = s.key := rfl
@[simp] theorem raiseCmdError_rk (c : CmdError) : (raiseCmdError c s).rk = s.rk := rfl
@[simp] theorem raiseCmdError_din (c : CmdError) : (raiseCmdError c s).din = s.din := rfl
@[simp] theorem raiseCmdError_dout (c : CmdError) : (raiseCmdError c s).dout = s.dout := rfl
@[simp] theorem raiseCmdError_ctr (c : CmdError) : (raiseCmdError c s).ctr = s.ctr := rfl
@[simp] theorem raiseCmdError_inflight (c : CmdError) : (raiseCmdError c s).inflight = s.inflight := rfl
@[simp] theorem raiseCmdError_platform (c : CmdError) : (raiseCmdError c s).platform = s.platform := rfl
@[simp] theorem raiseCmdError_program (c : CmdError) : (raiseCmdError c s).program = s.program := rfl
@[simp] theorem raiseCmdError_turns (c : CmdError) : (raiseCmdError c s).turns = s.turns := rfl
@[simp] theorem raiseCmdError_replies (c : CmdError) : (raiseCmdError c s).replies = s.replies := rfl
@[simp] theorem raiseCmdError_busErrorLog (c : CmdError) : (raiseCmdError c s).busErrorLog = s.busErrorLog := rfl
@[simp] theorem raiseCmdError_draws (c : CmdError) : (raiseCmdError c s).draws = s.draws := rfl

@[simp] theorem issue_ieDone (op : InFlightOp) : (issue op s).ieDone = s.ieDone := rfl
@[simp] theorem issue_ieErr (op : InFlightOp) : (issue op s).ieErr = s.ieErr := rfl
@[simp] theorem issue_done (op : InFlightOp) : (issue op s).done = false := rfl
@[simp] theorem issue_err (op : InFlightOp) : (issue op s).err = s.err := rfl
@[simp] theorem issue_errcode (op : InFlightOp) : (issue op s).errcode = s.errcode := rfl
@[simp] theorem issue_keyValid (op : InFlightOp) : (issue op s).keyValid = (s.keyValid && !clearsKeyValid op) := rfl
@[simp] theorem issue_ctrExh (op : InFlightOp) : (issue op s).ctrExh = s.ctrExh := rfl
@[simp] theorem issue_key (op : InFlightOp) : (issue op s).key = s.key := rfl
@[simp] theorem issue_rk (op : InFlightOp) : (issue op s).rk = s.rk := rfl
@[simp] theorem issue_din (op : InFlightOp) : (issue op s).din = s.din := rfl
@[simp] theorem issue_dout (op : InFlightOp) : (issue op s).dout = s.dout := rfl
@[simp] theorem issue_ctr (op : InFlightOp) : (issue op s).ctr = s.ctr := rfl
@[simp] theorem issue_inflight (op : InFlightOp) : (issue op s).inflight = some { op := op, key := s.key, rk := s.rk, din := s.din, ctr := s.ctr } := rfl
@[simp] theorem issue_platform (op : InFlightOp) : (issue op s).platform = s.platform := rfl
@[simp] theorem issue_program (op : InFlightOp) : (issue op s).program = s.program := rfl
@[simp] theorem issue_turns (op : InFlightOp) : (issue op s).turns = s.turns := rfl
@[simp] theorem issue_replies (op : InFlightOp) : (issue op s).replies = s.replies := rfl
@[simp] theorem issue_busErrorLog (op : InFlightOp) : (issue op s).busErrorLog = s.busErrorLog := rfl
@[simp] theorem issue_draws (op : InFlightOp) : (issue op s).draws = s.draws := rfl

@[simp] theorem finish_ieDone : (finish s).ieDone = s.ieDone := rfl
@[simp] theorem finish_ieErr : (finish s).ieErr = s.ieErr := rfl
@[simp] theorem finish_done : (finish s).done = true := rfl
@[simp] theorem finish_err : (finish s).err = s.err := rfl
@[simp] theorem finish_errcode : (finish s).errcode = s.errcode := rfl
@[simp] theorem finish_keyValid : (finish s).keyValid = s.keyValid := rfl
@[simp] theorem finish_ctrExh : (finish s).ctrExh = s.ctrExh := rfl
@[simp] theorem finish_key : (finish s).key = s.key := rfl
@[simp] theorem finish_rk : (finish s).rk = s.rk := rfl
@[simp] theorem finish_din : (finish s).din = s.din := rfl
@[simp] theorem finish_dout : (finish s).dout = s.dout := rfl
@[simp] theorem finish_ctr : (finish s).ctr = s.ctr := rfl
@[simp] theorem finish_inflight : (finish s).inflight = none := rfl
@[simp] theorem finish_platform : (finish s).platform = s.platform := rfl
@[simp] theorem finish_program : (finish s).program = s.program := rfl
@[simp] theorem finish_turns : (finish s).turns = s.turns := rfl
@[simp] theorem finish_replies : (finish s).replies = s.replies := rfl
@[simp] theorem finish_busErrorLog : (finish s).busErrorLog = s.busErrorLog := rfl
@[simp] theorem finish_draws : (finish s).draws = s.draws := rfl

@[simp] theorem setKeyWord_ieDone (j : Fin 8) (v : Reg32) : (setKeyWord j v s).ieDone = s.ieDone := rfl
@[simp] theorem setKeyWord_ieErr (j : Fin 8) (v : Reg32) : (setKeyWord j v s).ieErr = s.ieErr := rfl
@[simp] theorem setKeyWord_done (j : Fin 8) (v : Reg32) : (setKeyWord j v s).done = s.done := rfl
@[simp] theorem setKeyWord_err (j : Fin 8) (v : Reg32) : (setKeyWord j v s).err = s.err := rfl
@[simp] theorem setKeyWord_errcode (j : Fin 8) (v : Reg32) : (setKeyWord j v s).errcode = s.errcode := rfl
@[simp] theorem setKeyWord_keyValid (j : Fin 8) (v : Reg32) : (setKeyWord j v s).keyValid = false := rfl
@[simp] theorem setKeyWord_ctrExh (j : Fin 8) (v : Reg32) : (setKeyWord j v s).ctrExh = s.ctrExh := rfl
@[simp] theorem setKeyWord_key (j : Fin 8) (v : Reg32) : (setKeyWord j v s).key = s.key.set j.val (unpack v) j.isLt := rfl
@[simp] theorem setKeyWord_rk (j : Fin 8) (v : Reg32) : (setKeyWord j v s).rk = s.rk := rfl
@[simp] theorem setKeyWord_din (j : Fin 8) (v : Reg32) : (setKeyWord j v s).din = s.din := rfl
@[simp] theorem setKeyWord_dout (j : Fin 8) (v : Reg32) : (setKeyWord j v s).dout = s.dout := rfl
@[simp] theorem setKeyWord_ctr (j : Fin 8) (v : Reg32) : (setKeyWord j v s).ctr = s.ctr := rfl
@[simp] theorem setKeyWord_inflight (j : Fin 8) (v : Reg32) : (setKeyWord j v s).inflight = s.inflight := rfl
@[simp] theorem setKeyWord_platform (j : Fin 8) (v : Reg32) : (setKeyWord j v s).platform = s.platform := rfl
@[simp] theorem setKeyWord_program (j : Fin 8) (v : Reg32) : (setKeyWord j v s).program = s.program := rfl
@[simp] theorem setKeyWord_turns (j : Fin 8) (v : Reg32) : (setKeyWord j v s).turns = s.turns := rfl
@[simp] theorem setKeyWord_replies (j : Fin 8) (v : Reg32) : (setKeyWord j v s).replies = s.replies := rfl
@[simp] theorem setKeyWord_busErrorLog (j : Fin 8) (v : Reg32) : (setKeyWord j v s).busErrorLog = s.busErrorLog := rfl
@[simp] theorem setKeyWord_draws (j : Fin 8) (v : Reg32) : (setKeyWord j v s).draws = s.draws := rfl

@[simp] theorem setDinWord_ieDone (j : Fin 4) (v : Reg32) : (setDinWord j v s).ieDone = s.ieDone := rfl
@[simp] theorem setDinWord_ieErr (j : Fin 4) (v : Reg32) : (setDinWord j v s).ieErr = s.ieErr := rfl
@[simp] theorem setDinWord_done (j : Fin 4) (v : Reg32) : (setDinWord j v s).done = s.done := rfl
@[simp] theorem setDinWord_err (j : Fin 4) (v : Reg32) : (setDinWord j v s).err = s.err := rfl
@[simp] theorem setDinWord_errcode (j : Fin 4) (v : Reg32) : (setDinWord j v s).errcode = s.errcode := rfl
@[simp] theorem setDinWord_keyValid (j : Fin 4) (v : Reg32) : (setDinWord j v s).keyValid = s.keyValid := rfl
@[simp] theorem setDinWord_ctrExh (j : Fin 4) (v : Reg32) : (setDinWord j v s).ctrExh = s.ctrExh := rfl
@[simp] theorem setDinWord_key (j : Fin 4) (v : Reg32) : (setDinWord j v s).key = s.key := rfl
@[simp] theorem setDinWord_rk (j : Fin 4) (v : Reg32) : (setDinWord j v s).rk = s.rk := rfl
@[simp] theorem setDinWord_din (j : Fin 4) (v : Reg32) : (setDinWord j v s).din = s.din.set j (unpack v) := rfl
@[simp] theorem setDinWord_dout (j : Fin 4) (v : Reg32) : (setDinWord j v s).dout = s.dout := rfl
@[simp] theorem setDinWord_ctr (j : Fin 4) (v : Reg32) : (setDinWord j v s).ctr = s.ctr := rfl
@[simp] theorem setDinWord_inflight (j : Fin 4) (v : Reg32) : (setDinWord j v s).inflight = s.inflight := rfl
@[simp] theorem setDinWord_platform (j : Fin 4) (v : Reg32) : (setDinWord j v s).platform = s.platform := rfl
@[simp] theorem setDinWord_program (j : Fin 4) (v : Reg32) : (setDinWord j v s).program = s.program := rfl
@[simp] theorem setDinWord_turns (j : Fin 4) (v : Reg32) : (setDinWord j v s).turns = s.turns := rfl
@[simp] theorem setDinWord_replies (j : Fin 4) (v : Reg32) : (setDinWord j v s).replies = s.replies := rfl
@[simp] theorem setDinWord_busErrorLog (j : Fin 4) (v : Reg32) : (setDinWord j v s).busErrorLog = s.busErrorLog := rfl
@[simp] theorem setDinWord_draws (j : Fin 4) (v : Reg32) : (setDinWord j v s).draws = s.draws := rfl

@[simp] theorem setCtrWord_ieDone (j : Fin 4) (v : Reg32) : (setCtrWord j v s).ieDone = s.ieDone := rfl
@[simp] theorem setCtrWord_ieErr (j : Fin 4) (v : Reg32) : (setCtrWord j v s).ieErr = s.ieErr := rfl
@[simp] theorem setCtrWord_done (j : Fin 4) (v : Reg32) : (setCtrWord j v s).done = s.done := rfl
@[simp] theorem setCtrWord_err (j : Fin 4) (v : Reg32) : (setCtrWord j v s).err = s.err := rfl
@[simp] theorem setCtrWord_errcode (j : Fin 4) (v : Reg32) : (setCtrWord j v s).errcode = s.errcode := rfl
@[simp] theorem setCtrWord_keyValid (j : Fin 4) (v : Reg32) : (setCtrWord j v s).keyValid = s.keyValid := rfl
@[simp] theorem setCtrWord_ctrExh (j : Fin 4) (v : Reg32) : (setCtrWord j v s).ctrExh = false := rfl
@[simp] theorem setCtrWord_key (j : Fin 4) (v : Reg32) : (setCtrWord j v s).key = s.key := rfl
@[simp] theorem setCtrWord_rk (j : Fin 4) (v : Reg32) : (setCtrWord j v s).rk = s.rk := rfl
@[simp] theorem setCtrWord_din (j : Fin 4) (v : Reg32) : (setCtrWord j v s).din = s.din := rfl
@[simp] theorem setCtrWord_dout (j : Fin 4) (v : Reg32) : (setCtrWord j v s).dout = s.dout := rfl
@[simp] theorem setCtrWord_ctr (j : Fin 4) (v : Reg32) : (setCtrWord j v s).ctr = s.ctr.set j (unpack v) := rfl
@[simp] theorem setCtrWord_inflight (j : Fin 4) (v : Reg32) : (setCtrWord j v s).inflight = s.inflight := rfl
@[simp] theorem setCtrWord_platform (j : Fin 4) (v : Reg32) : (setCtrWord j v s).platform = s.platform := rfl
@[simp] theorem setCtrWord_program (j : Fin 4) (v : Reg32) : (setCtrWord j v s).program = s.program := rfl
@[simp] theorem setCtrWord_turns (j : Fin 4) (v : Reg32) : (setCtrWord j v s).turns = s.turns := rfl
@[simp] theorem setCtrWord_replies (j : Fin 4) (v : Reg32) : (setCtrWord j v s).replies = s.replies := rfl
@[simp] theorem setCtrWord_busErrorLog (j : Fin 4) (v : Reg32) : (setCtrWord j v s).busErrorLog = s.busErrorLog := rfl
@[simp] theorem setCtrWord_draws (j : Fin 4) (v : Reg32) : (setCtrWord j v s).draws = s.draws := rfl

@[simp] theorem writeCtrl_ieDone (v : Reg32) : (writeCtrl v s).ieDone = v.getLsbD 0 := rfl
@[simp] theorem writeCtrl_ieErr (v : Reg32) : (writeCtrl v s).ieErr = v.getLsbD 1 := rfl
@[simp] theorem writeCtrl_done (v : Reg32) : (writeCtrl v s).done = s.done := rfl
@[simp] theorem writeCtrl_err (v : Reg32) : (writeCtrl v s).err = s.err := rfl
@[simp] theorem writeCtrl_errcode (v : Reg32) : (writeCtrl v s).errcode = s.errcode := rfl
@[simp] theorem writeCtrl_keyValid (v : Reg32) : (writeCtrl v s).keyValid = s.keyValid := rfl
@[simp] theorem writeCtrl_ctrExh (v : Reg32) : (writeCtrl v s).ctrExh = s.ctrExh := rfl
@[simp] theorem writeCtrl_key (v : Reg32) : (writeCtrl v s).key = s.key := rfl
@[simp] theorem writeCtrl_rk (v : Reg32) : (writeCtrl v s).rk = s.rk := rfl
@[simp] theorem writeCtrl_din (v : Reg32) : (writeCtrl v s).din = s.din := rfl
@[simp] theorem writeCtrl_dout (v : Reg32) : (writeCtrl v s).dout = s.dout := rfl
@[simp] theorem writeCtrl_ctr (v : Reg32) : (writeCtrl v s).ctr = s.ctr := rfl
@[simp] theorem writeCtrl_inflight (v : Reg32) : (writeCtrl v s).inflight = s.inflight := rfl
@[simp] theorem writeCtrl_platform (v : Reg32) : (writeCtrl v s).platform = s.platform := rfl
@[simp] theorem writeCtrl_program (v : Reg32) : (writeCtrl v s).program = s.program := rfl
@[simp] theorem writeCtrl_turns (v : Reg32) : (writeCtrl v s).turns = s.turns := rfl
@[simp] theorem writeCtrl_replies (v : Reg32) : (writeCtrl v s).replies = s.replies := rfl
@[simp] theorem writeCtrl_busErrorLog (v : Reg32) : (writeCtrl v s).busErrorLog = s.busErrorLog := rfl
@[simp] theorem writeCtrl_draws (v : Reg32) : (writeCtrl v s).draws = s.draws := rfl

@[simp] theorem writeStatus_ieDone (v : Reg32) : (writeStatus v s).ieDone = s.ieDone := rfl
@[simp] theorem writeStatus_ieErr (v : Reg32) : (writeStatus v s).ieErr = s.ieErr := rfl
@[simp] theorem writeStatus_done (v : Reg32) : (writeStatus v s).done = (s.done && !v.getLsbD 1) := rfl
@[simp] theorem writeStatus_err (v : Reg32) : (writeStatus v s).err = (s.err && !v.getLsbD 2) := rfl
@[simp] theorem writeStatus_errcode (v : Reg32) : (writeStatus v s).errcode = if v.getLsbD 2 then 0 else s.errcode := rfl
@[simp] theorem writeStatus_keyValid (v : Reg32) : (writeStatus v s).keyValid = s.keyValid := rfl
@[simp] theorem writeStatus_ctrExh (v : Reg32) : (writeStatus v s).ctrExh = s.ctrExh := rfl
@[simp] theorem writeStatus_key (v : Reg32) : (writeStatus v s).key = s.key := rfl
@[simp] theorem writeStatus_rk (v : Reg32) : (writeStatus v s).rk = s.rk := rfl
@[simp] theorem writeStatus_din (v : Reg32) : (writeStatus v s).din = s.din := rfl
@[simp] theorem writeStatus_dout (v : Reg32) : (writeStatus v s).dout = s.dout := rfl
@[simp] theorem writeStatus_ctr (v : Reg32) : (writeStatus v s).ctr = s.ctr := rfl
@[simp] theorem writeStatus_inflight (v : Reg32) : (writeStatus v s).inflight = s.inflight := rfl
@[simp] theorem writeStatus_platform (v : Reg32) : (writeStatus v s).platform = s.platform := rfl
@[simp] theorem writeStatus_program (v : Reg32) : (writeStatus v s).program = s.program := rfl
@[simp] theorem writeStatus_turns (v : Reg32) : (writeStatus v s).turns = s.turns := rfl
@[simp] theorem writeStatus_replies (v : Reg32) : (writeStatus v s).replies = s.replies := rfl
@[simp] theorem writeStatus_busErrorLog (v : Reg32) : (writeStatus v s).busErrorLog = s.busErrorLog := rfl
@[simp] theorem writeStatus_draws (v : Reg32) : (writeStatus v s).draws = s.draws := rfl

@[simp] theorem nextDraw_ieDone : (nextDraw s).ieDone = s.ieDone := rfl
@[simp] theorem nextDraw_ieErr : (nextDraw s).ieErr = s.ieErr := rfl
@[simp] theorem nextDraw_done : (nextDraw s).done = s.done := rfl
@[simp] theorem nextDraw_err : (nextDraw s).err = s.err := rfl
@[simp] theorem nextDraw_errcode : (nextDraw s).errcode = s.errcode := rfl
@[simp] theorem nextDraw_keyValid : (nextDraw s).keyValid = s.keyValid := rfl
@[simp] theorem nextDraw_ctrExh : (nextDraw s).ctrExh = s.ctrExh := rfl
@[simp] theorem nextDraw_key : (nextDraw s).key = s.key := rfl
@[simp] theorem nextDraw_rk : (nextDraw s).rk = s.rk := rfl
@[simp] theorem nextDraw_din : (nextDraw s).din = s.din := rfl
@[simp] theorem nextDraw_dout : (nextDraw s).dout = s.dout := rfl
@[simp] theorem nextDraw_ctr : (nextDraw s).ctr = s.ctr := rfl
@[simp] theorem nextDraw_inflight : (nextDraw s).inflight = s.inflight := rfl
@[simp] theorem nextDraw_platform : (nextDraw s).platform = s.platform := rfl
@[simp] theorem nextDraw_program : (nextDraw s).program = s.program := rfl
@[simp] theorem nextDraw_turns : (nextDraw s).turns = s.turns := rfl
@[simp] theorem nextDraw_replies : (nextDraw s).replies = s.replies := rfl
@[simp] theorem nextDraw_busErrorLog : (nextDraw s).busErrorLog = s.busErrorLog := rfl
@[simp] theorem nextDraw_draws : (nextDraw s).draws = s.draws + 1 := rfl

@[simp] theorem logReply_ieDone (r : Reply) : (logReply r s).ieDone = s.ieDone := rfl
@[simp] theorem logReply_ieErr (r : Reply) : (logReply r s).ieErr = s.ieErr := rfl
@[simp] theorem logReply_done (r : Reply) : (logReply r s).done = s.done := rfl
@[simp] theorem logReply_err (r : Reply) : (logReply r s).err = s.err := rfl
@[simp] theorem logReply_errcode (r : Reply) : (logReply r s).errcode = s.errcode := rfl
@[simp] theorem logReply_keyValid (r : Reply) : (logReply r s).keyValid = s.keyValid := rfl
@[simp] theorem logReply_ctrExh (r : Reply) : (logReply r s).ctrExh = s.ctrExh := rfl
@[simp] theorem logReply_key (r : Reply) : (logReply r s).key = s.key := rfl
@[simp] theorem logReply_rk (r : Reply) : (logReply r s).rk = s.rk := rfl
@[simp] theorem logReply_din (r : Reply) : (logReply r s).din = s.din := rfl
@[simp] theorem logReply_dout (r : Reply) : (logReply r s).dout = s.dout := rfl
@[simp] theorem logReply_ctr (r : Reply) : (logReply r s).ctr = s.ctr := rfl
@[simp] theorem logReply_inflight (r : Reply) : (logReply r s).inflight = s.inflight := rfl
@[simp] theorem logReply_platform (r : Reply) : (logReply r s).platform = s.platform := rfl
@[simp] theorem logReply_program (r : Reply) : (logReply r s).program = s.program := rfl
@[simp] theorem logReply_turns (r : Reply) : (logReply r s).turns = s.turns := rfl
@[simp] theorem logReply_replies (r : Reply) : (logReply r s).replies = r :: s.replies := rfl
@[simp] theorem logReply_busErrorLog (r : Reply) : (logReply r s).busErrorLog = s.busErrorLog := rfl
@[simp] theorem logReply_draws (r : Reply) : (logReply r s).draws = s.draws := rfl

@[simp] theorem dropTurn_ieDone : (dropTurn s).ieDone = s.ieDone := rfl
@[simp] theorem dropTurn_ieErr : (dropTurn s).ieErr = s.ieErr := rfl
@[simp] theorem dropTurn_done : (dropTurn s).done = s.done := rfl
@[simp] theorem dropTurn_err : (dropTurn s).err = s.err := rfl
@[simp] theorem dropTurn_errcode : (dropTurn s).errcode = s.errcode := rfl
@[simp] theorem dropTurn_keyValid : (dropTurn s).keyValid = s.keyValid := rfl
@[simp] theorem dropTurn_ctrExh : (dropTurn s).ctrExh = s.ctrExh := rfl
@[simp] theorem dropTurn_key : (dropTurn s).key = s.key := rfl
@[simp] theorem dropTurn_rk : (dropTurn s).rk = s.rk := rfl
@[simp] theorem dropTurn_din : (dropTurn s).din = s.din := rfl
@[simp] theorem dropTurn_dout : (dropTurn s).dout = s.dout := rfl
@[simp] theorem dropTurn_ctr : (dropTurn s).ctr = s.ctr := rfl
@[simp] theorem dropTurn_inflight : (dropTurn s).inflight = s.inflight := rfl
@[simp] theorem dropTurn_platform : (dropTurn s).platform = s.platform := rfl
@[simp] theorem dropTurn_program : (dropTurn s).program = s.program := rfl
@[simp] theorem dropTurn_turns : (dropTurn s).turns = s.turns.tail := rfl
@[simp] theorem dropTurn_replies : (dropTurn s).replies = s.replies := rfl
@[simp] theorem dropTurn_busErrorLog : (dropTurn s).busErrorLog = s.busErrorLog := rfl
@[simp] theorem dropTurn_draws : (dropTurn s).draws = s.draws := rfl

@[simp] theorem completeKeyexp_ieDone (f : InFlight) : (completeKeyexp f s).ieDone = s.ieDone := rfl
@[simp] theorem completeKeyexp_ieErr (f : InFlight) : (completeKeyexp f s).ieErr = s.ieErr := rfl
@[simp] theorem completeKeyexp_done (f : InFlight) : (completeKeyexp f s).done = s.done := rfl
@[simp] theorem completeKeyexp_err (f : InFlight) : (completeKeyexp f s).err = s.err := rfl
@[simp] theorem completeKeyexp_errcode (f : InFlight) : (completeKeyexp f s).errcode = s.errcode := rfl
@[simp] theorem completeKeyexp_keyValid (f : InFlight) : (completeKeyexp f s).keyValid = true := rfl
@[simp] theorem completeKeyexp_ctrExh (f : InFlight) : (completeKeyexp f s).ctrExh = s.ctrExh := rfl
@[simp] theorem completeKeyexp_key (f : InFlight) : (completeKeyexp f s).key = s.key := rfl
@[simp] theorem completeKeyexp_rk (f : InFlight) : (completeKeyexp f s).rk = expand f.key := rfl
@[simp] theorem completeKeyexp_din (f : InFlight) : (completeKeyexp f s).din = s.din := rfl
@[simp] theorem completeKeyexp_dout (f : InFlight) : (completeKeyexp f s).dout = s.dout := rfl
@[simp] theorem completeKeyexp_ctr (f : InFlight) : (completeKeyexp f s).ctr = s.ctr := rfl
@[simp] theorem completeKeyexp_inflight (f : InFlight) : (completeKeyexp f s).inflight = s.inflight := rfl
@[simp] theorem completeKeyexp_platform (f : InFlight) : (completeKeyexp f s).platform = s.platform := rfl
@[simp] theorem completeKeyexp_program (f : InFlight) : (completeKeyexp f s).program = s.program := rfl
@[simp] theorem completeKeyexp_turns (f : InFlight) : (completeKeyexp f s).turns = s.turns := rfl
@[simp] theorem completeKeyexp_replies (f : InFlight) : (completeKeyexp f s).replies = s.replies := rfl
@[simp] theorem completeKeyexp_busErrorLog (f : InFlight) : (completeKeyexp f s).busErrorLog = s.busErrorLog := rfl
@[simp] theorem completeKeyexp_draws (f : InFlight) : (completeKeyexp f s).draws = s.draws := rfl

@[simp] theorem completeEcbEnc_ieDone (f : InFlight) : (completeEcbEnc f s).ieDone = s.ieDone := rfl
@[simp] theorem completeEcbEnc_ieErr (f : InFlight) : (completeEcbEnc f s).ieErr = s.ieErr := rfl
@[simp] theorem completeEcbEnc_done (f : InFlight) : (completeEcbEnc f s).done = s.done := rfl
@[simp] theorem completeEcbEnc_err (f : InFlight) : (completeEcbEnc f s).err = s.err := rfl
@[simp] theorem completeEcbEnc_errcode (f : InFlight) : (completeEcbEnc f s).errcode = s.errcode := rfl
@[simp] theorem completeEcbEnc_keyValid (f : InFlight) : (completeEcbEnc f s).keyValid = s.keyValid := rfl
@[simp] theorem completeEcbEnc_ctrExh (f : InFlight) : (completeEcbEnc f s).ctrExh = s.ctrExh := rfl
@[simp] theorem completeEcbEnc_key (f : InFlight) : (completeEcbEnc f s).key = s.key := rfl
@[simp] theorem completeEcbEnc_rk (f : InFlight) : (completeEcbEnc f s).rk = s.rk := rfl
@[simp] theorem completeEcbEnc_din (f : InFlight) : (completeEcbEnc f s).din = s.din := rfl
@[simp] theorem completeEcbEnc_dout (f : InFlight) : (completeEcbEnc f s).dout = encrypt f.rk f.din := rfl
@[simp] theorem completeEcbEnc_ctr (f : InFlight) : (completeEcbEnc f s).ctr = s.ctr := rfl
@[simp] theorem completeEcbEnc_inflight (f : InFlight) : (completeEcbEnc f s).inflight = s.inflight := rfl
@[simp] theorem completeEcbEnc_platform (f : InFlight) : (completeEcbEnc f s).platform = s.platform := rfl
@[simp] theorem completeEcbEnc_program (f : InFlight) : (completeEcbEnc f s).program = s.program := rfl
@[simp] theorem completeEcbEnc_turns (f : InFlight) : (completeEcbEnc f s).turns = s.turns := rfl
@[simp] theorem completeEcbEnc_replies (f : InFlight) : (completeEcbEnc f s).replies = s.replies := rfl
@[simp] theorem completeEcbEnc_busErrorLog (f : InFlight) : (completeEcbEnc f s).busErrorLog = s.busErrorLog := rfl
@[simp] theorem completeEcbEnc_draws (f : InFlight) : (completeEcbEnc f s).draws = s.draws := rfl

@[simp] theorem completeEcbDec_ieDone (f : InFlight) : (completeEcbDec f s).ieDone = s.ieDone := rfl
@[simp] theorem completeEcbDec_ieErr (f : InFlight) : (completeEcbDec f s).ieErr = s.ieErr := rfl
@[simp] theorem completeEcbDec_done (f : InFlight) : (completeEcbDec f s).done = s.done := rfl
@[simp] theorem completeEcbDec_err (f : InFlight) : (completeEcbDec f s).err = s.err := rfl
@[simp] theorem completeEcbDec_errcode (f : InFlight) : (completeEcbDec f s).errcode = s.errcode := rfl
@[simp] theorem completeEcbDec_keyValid (f : InFlight) : (completeEcbDec f s).keyValid = s.keyValid := rfl
@[simp] theorem completeEcbDec_ctrExh (f : InFlight) : (completeEcbDec f s).ctrExh = s.ctrExh := rfl
@[simp] theorem completeEcbDec_key (f : InFlight) : (completeEcbDec f s).key = s.key := rfl
@[simp] theorem completeEcbDec_rk (f : InFlight) : (completeEcbDec f s).rk = s.rk := rfl
@[simp] theorem completeEcbDec_din (f : InFlight) : (completeEcbDec f s).din = s.din := rfl
@[simp] theorem completeEcbDec_dout (f : InFlight) : (completeEcbDec f s).dout = decrypt f.rk f.din := rfl
@[simp] theorem completeEcbDec_ctr (f : InFlight) : (completeEcbDec f s).ctr = s.ctr := rfl
@[simp] theorem completeEcbDec_inflight (f : InFlight) : (completeEcbDec f s).inflight = s.inflight := rfl
@[simp] theorem completeEcbDec_platform (f : InFlight) : (completeEcbDec f s).platform = s.platform := rfl
@[simp] theorem completeEcbDec_program (f : InFlight) : (completeEcbDec f s).program = s.program := rfl
@[simp] theorem completeEcbDec_turns (f : InFlight) : (completeEcbDec f s).turns = s.turns := rfl
@[simp] theorem completeEcbDec_replies (f : InFlight) : (completeEcbDec f s).replies = s.replies := rfl
@[simp] theorem completeEcbDec_busErrorLog (f : InFlight) : (completeEcbDec f s).busErrorLog = s.busErrorLog := rfl
@[simp] theorem completeEcbDec_draws (f : InFlight) : (completeEcbDec f s).draws = s.draws := rfl

@[simp] theorem completeCtr_ieDone (f : InFlight) : (completeCtr f s).ieDone = s.ieDone := rfl
@[simp] theorem completeCtr_ieErr (f : InFlight) : (completeCtr f s).ieErr = s.ieErr := rfl
@[simp] theorem completeCtr_done (f : InFlight) : (completeCtr f s).done = s.done := rfl
@[simp] theorem completeCtr_err (f : InFlight) : (completeCtr f s).err = s.err := rfl
@[simp] theorem completeCtr_errcode (f : InFlight) : (completeCtr f s).errcode = s.errcode := rfl
@[simp] theorem completeCtr_keyValid (f : InFlight) : (completeCtr f s).keyValid = s.keyValid := rfl
@[simp] theorem completeCtr_ctrExh (f : InFlight) : (completeCtr f s).ctrExh = (s.ctrExh || counterExhausted f.ctr) := rfl
@[simp] theorem completeCtr_key (f : InFlight) : (completeCtr f s).key = s.key := rfl
@[simp] theorem completeCtr_rk (f : InFlight) : (completeCtr f s).rk = s.rk := rfl
@[simp] theorem completeCtr_din (f : InFlight) : (completeCtr f s).din = s.din := rfl
@[simp] theorem completeCtr_dout (f : InFlight) : (completeCtr f s).dout = blockXor f.din (encrypt f.rk f.ctr) := rfl
@[simp] theorem completeCtr_ctr (f : InFlight) : (completeCtr f s).ctr = if counterExhausted f.ctr then s.ctr else withCounter s.ctr (counterField f.ctr + 1) := rfl
@[simp] theorem completeCtr_inflight (f : InFlight) : (completeCtr f s).inflight = s.inflight := rfl
@[simp] theorem completeCtr_platform (f : InFlight) : (completeCtr f s).platform = s.platform := rfl
@[simp] theorem completeCtr_program (f : InFlight) : (completeCtr f s).program = s.program := rfl
@[simp] theorem completeCtr_turns (f : InFlight) : (completeCtr f s).turns = s.turns := rfl
@[simp] theorem completeCtr_replies (f : InFlight) : (completeCtr f s).replies = s.replies := rfl
@[simp] theorem completeCtr_busErrorLog (f : InFlight) : (completeCtr f s).busErrorLog = s.busErrorLog := rfl
@[simp] theorem completeCtr_draws (f : InFlight) : (completeCtr f s).draws = s.draws := rfl

@[simp] theorem completeZeroize_ieDone (f : InFlight) : (completeZeroize f s).ieDone = s.ieDone := rfl
@[simp] theorem completeZeroize_ieErr (f : InFlight) : (completeZeroize f s).ieErr = s.ieErr := rfl
@[simp] theorem completeZeroize_done (f : InFlight) : (completeZeroize f s).done = s.done := rfl
@[simp] theorem completeZeroize_err (f : InFlight) : (completeZeroize f s).err = s.err := rfl
@[simp] theorem completeZeroize_errcode (f : InFlight) : (completeZeroize f s).errcode = s.errcode := rfl
@[simp] theorem completeZeroize_keyValid (f : InFlight) : (completeZeroize f s).keyValid = false := rfl
@[simp] theorem completeZeroize_ctrExh (f : InFlight) : (completeZeroize f s).ctrExh = false := rfl
@[simp] theorem completeZeroize_key (f : InFlight) : (completeZeroize f s).key = Key.zero := rfl
@[simp] theorem completeZeroize_rk (f : InFlight) : (completeZeroize f s).rk = Sched.zero := rfl
@[simp] theorem completeZeroize_din (f : InFlight) : (completeZeroize f s).din = Block.zero := rfl
@[simp] theorem completeZeroize_dout (f : InFlight) : (completeZeroize f s).dout = Block.zero := rfl
@[simp] theorem completeZeroize_ctr (f : InFlight) : (completeZeroize f s).ctr = Block.zero := rfl
@[simp] theorem completeZeroize_inflight (f : InFlight) : (completeZeroize f s).inflight = s.inflight := rfl
@[simp] theorem completeZeroize_platform (f : InFlight) : (completeZeroize f s).platform = s.platform := rfl
@[simp] theorem completeZeroize_program (f : InFlight) : (completeZeroize f s).program = s.program := rfl
@[simp] theorem completeZeroize_turns (f : InFlight) : (completeZeroize f s).turns = s.turns := rfl
@[simp] theorem completeZeroize_replies (f : InFlight) : (completeZeroize f s).replies = s.replies := rfl
@[simp] theorem completeZeroize_busErrorLog (f : InFlight) : (completeZeroize f s).busErrorLog = s.busErrorLog := rfl
@[simp] theorem completeZeroize_draws (f : InFlight) : (completeZeroize f s).draws = s.draws := rfl

@[simp] theorem takeReset_ieDone : (takeReset s).ieDone = false := rfl
@[simp] theorem takeReset_ieErr : (takeReset s).ieErr = false := rfl
@[simp] theorem takeReset_done : (takeReset s).done = false := rfl
@[simp] theorem takeReset_err : (takeReset s).err = false := rfl
@[simp] theorem takeReset_errcode : (takeReset s).errcode = 0 := rfl
@[simp] theorem takeReset_keyValid : (takeReset s).keyValid = false := rfl
@[simp] theorem takeReset_ctrExh : (takeReset s).ctrExh = false := rfl
@[simp] theorem takeReset_key : (takeReset s).key = Key.zero := rfl
@[simp] theorem takeReset_rk : (takeReset s).rk = Config.rkDraw s.draws := rfl
@[simp] theorem takeReset_din : (takeReset s).din = Block.zero := rfl
@[simp] theorem takeReset_dout : (takeReset s).dout = Block.zero := rfl
@[simp] theorem takeReset_ctr : (takeReset s).ctr = Block.zero := rfl
@[simp] theorem takeReset_inflight : (takeReset s).inflight = none := rfl
@[simp] theorem takeReset_platform : (takeReset s).platform = s.platform := rfl
@[simp] theorem takeReset_program : (takeReset s).program = s.program := rfl
@[simp] theorem takeReset_turns : (takeReset s).turns = s.turns := rfl
@[simp] theorem takeReset_replies : (takeReset s).replies = s.replies := rfl
@[simp] theorem takeReset_busErrorLog : (takeReset s).busErrorLog = s.busErrorLog := rfl
@[simp] theorem takeReset_draws : (takeReset s).draws = s.draws + 1 := rfl

end Sys2Proof.Machine
end

