-- ==== Sys2Proof/Laws/Commands.lean ====
section
/-! SUPPORT. What a command write and a completion can do. -/

namespace Sys2Proof.Machine

theorem busy_eq_false {s : State} : s.busy = false ↔ s.inflight = none := by
  cases h : s.inflight <;> simp [State.busy, h]

theorem busy_eq_true {s : State} : s.busy = true ↔ ∃ f, s.inflight = some f := by
  cases h : s.inflight <;> simp [State.busy, h]

/-- A command write either records the first failing check or does the command's own effect. -/
theorem acceptOr_cases (needsKey needsCounter : Bool) (go : State → State) (s : State) :
    (s.busy = true ∧ acceptOr needsKey needsCounter go s = raiseCmdError .busy s) ∨
    (s.busy = false ∧ needsKey = true ∧ s.keyValid = false ∧
      acceptOr needsKey needsCounter go s = raiseCmdError .noKey s) ∨
    (s.busy = false ∧ (needsKey = true → s.keyValid = true) ∧ needsCounter = true ∧ s.ctrExh = true ∧
      acceptOr needsKey needsCounter go s = raiseCmdError .ctrOverflow s) ∨
    (s.busy = false ∧ (needsKey = true → s.keyValid = true) ∧ (needsCounter = true → s.ctrExh = false) ∧
      acceptOr needsKey needsCounter go s = go s) := by
  cases hb : s.busy <;> cases needsKey <;> cases hk : s.keyValid <;> cases needsCounter <;>
    cases hc : s.ctrExh <;> simp [acceptOr, commandError, hb, hk, hc]

theorem acceptOr_busy {a b : Bool} {go : State → State} {s : State} (h : s.busy = true) :
    acceptOr a b go s = raiseCmdError .busy s := by
  simp [acceptOr, commandError, h]

theorem acceptOr_noKey {b : Bool} {go : State → State} {s : State} (h : s.busy = false)
    (hk : s.keyValid = false) : acceptOr true b go s = raiseCmdError .noKey s := by
  simp [acceptOr, commandError, h, hk]

theorem acceptOr_ctrOverflow {go : State → State} {s : State} (h : s.busy = false)
    (hk : s.keyValid = true) (hc : s.ctrExh = true) :
    acceptOr true true go s = raiseCmdError .ctrOverflow s := by
  simp [acceptOr, commandError, h, hk, hc]

theorem acceptOr_go {a b : Bool} {go : State → State} {s : State} (h : s.busy = false)
    (hk : a = true → s.keyValid = true) (hc : b = true → s.ctrExh = false) :
    acceptOr a b go s = go s := by
  cases a <;> cases b <;> simp_all [acceptOr, commandError]

/-- The same in two cases: some check fails, or all pass. -/
theorem acceptOr_raise_or_go (a b : Bool) (go : State → State) (s : State) :
    (∃ c, acceptOr a b go s = raiseCmdError c s ∧
      (c = .busy ∧ s.busy = true ∨ c = .noKey ∧ s.keyValid = false ∨ c = .ctrOverflow ∧ s.ctrExh = true)) ∨
    (s.busy = false ∧ (a = true → s.keyValid = true) ∧ (b = true → s.ctrExh = false) ∧
      acceptOr a b go s = go s) := by
  rcases acceptOr_cases a b go s with ⟨h, e⟩ | ⟨-, -, h, e⟩ | ⟨-, -, -, h, e⟩ | h
  · exact .inl ⟨_, e, .inl ⟨rfl, h⟩⟩
  · exact .inl ⟨_, e, .inr (.inl ⟨rfl, h⟩)⟩
  · exact .inl ⟨_, e, .inr (.inr ⟨rfl, h⟩)⟩
  · exact .inr h

/-- A command write does one of three things: it records an error, it does nothing (NOP), or it issues its command. -/
theorem exec_cases {i : Instr} {s t : State} (h : exec i s = .next t) :
    (∃ c, t = raiseCmdError c s ∧
      (c = .busy ∧ s.busy = true ∨ c = .noKey ∧ s.keyValid = false ∨ c = .ctrOverflow ∧ s.ctrExh = true)) ∨
    (i = .nop ∧ s.busy = false ∧ t = s) ∨
    (∃ op, i = instrOf op ∧ s.busy = false ∧ t = issue op s ∧
      (clearsKeyValid op = false → s.keyValid = true) ∧ (op = .ctr → s.ctrExh = false)) := by
  cases i <;>
    simp only [exec, execNop, execKeyexp, execEcbEnc, execEcbDec, execCtr, execZeroize,
      Host.Outcome.next.injEq] at h <;>
    subst h
  case nop =>
    rcases acceptOr_raise_or_go false false id s with h | ⟨hb, -, -, e⟩
    · exact .inl h
    · exact .inr (.inl ⟨rfl, hb, e⟩)
  case keyexp =>
    rcases acceptOr_raise_or_go false false (issue .keyexp) s with h | ⟨hb, -, -, e⟩
    · exact .inl h
    · exact .inr (.inr ⟨.keyexp, rfl, hb, e, nofun, nofun⟩)
  case ecbEnc =>
    rcases acceptOr_raise_or_go true false (issue .ecbEnc) s with h | ⟨hb, hk, -, e⟩
    · exact .inl h
    · exact .inr (.inr ⟨.ecbEnc, rfl, hb, e, fun _ => hk rfl, nofun⟩)
  case ecbDec =>
    rcases acceptOr_raise_or_go true false (issue .ecbDec) s with h | ⟨hb, hk, -, e⟩
    · exact .inl h
    · exact .inr (.inr ⟨.ecbDec, rfl, hb, e, fun _ => hk rfl, nofun⟩)
  case ctr =>
    rcases acceptOr_raise_or_go true true (issue .ctr) s with h | ⟨hb, hk, hc, e⟩
    · exact .inl h
    · exact .inr (.inr ⟨.ctr, rfl, hb, e, fun _ => hk rfl, fun _ => hc rfl⟩)
  case zeroize =>
    rcases acceptOr_raise_or_go false false (issue .zeroize) s with h | ⟨hb, -, -, e⟩
    · exact .inl h
    · exact .inr (.inr ⟨.zeroize, rfl, hb, e, nofun, nofun⟩)

/-- Every command write answers a next state. -/
theorem exec_runs (i : Instr) (s : State) : ∃ t, exec i s = .next t := by
  cases i <;> exact ⟨_, rfl⟩

theorem complete_idle {s : State} (h : s.inflight = none) : complete s = s := by
  simp [complete, h]

theorem complete_inflight {s : State} {f : InFlight} (h : s.inflight = some f) :
    complete s = finish (completeOp f s) := by
  simp [complete, h]

/-- A completion does one of five things (45_commands.md R292). -/
theorem completeOp_cases (f : InFlight) (s : State) :
    (f.op = .keyexp ∧ completeOp f s = completeKeyexp f s) ∨
    (f.op = .ecbEnc ∧ completeOp f s = completeEcbEnc f s) ∨
    (f.op = .ecbDec ∧ completeOp f s = completeEcbDec f s) ∨
    (f.op = .ctr ∧ completeOp f s = completeCtr f s) ∨
    (f.op = .zeroize ∧ completeOp f s = completeZeroize f s) := by
  cases h : f.op <;> simp [completeOp, h]

end Sys2Proof.Machine
end

