-- ==== Sys2Proof/Laws/Bus.lean ====
section
/-! SUPPORT. What a bus access and a host step can do. -/

namespace Sys2Proof.Machine

/-- An offset selects the register that has it, and no other. -/
theorem regAt_eq_some {off : Nat} {r : Reg} : regAt off = some r ↔ off = r.offset := by
  constructor
  · intro h
    unfold regAt at h
    split at h <;> first | (cases h; rfl) | cases h
  · rintro rfl
    cases r with
    | key j => fin_cases j <;> rfl
    | din j => fin_cases j <;> rfl
    | dout j => fin_cases j <;> rfl
    | ctr j => fin_cases j <;> rfl
    | _ => rfl

theorem busSelect_eq_ok {off width : Nat} {r : Reg} :
    busSelect off width = .ok r ↔ width = 4 ∧ off = r.offset := by
  have hmod : off = r.offset → off % 4 = 0 := by
    rintro rfl; cases r <;> simp [Reg.offset]
  unfold busSelect
  split
  · simp_all
  · split
    · rename_i h4
      exact ⟨nofun, fun h => absurd (hmod h.2) h4⟩
    · split
      · rename_i r' hr
        rw [regAt_eq_some] at hr
        constructor
        · rintro ⟨⟩; exact ⟨by omega, hr⟩
        · rintro ⟨-, h⟩
          have : regAt off = some r := regAt_eq_some.2 h
          rw [regAt_eq_some.2 hr] at this
          cases this; rfl
      · rename_i hr
        constructor
        · intro h; cases h
        · rintro ⟨-, h⟩
          rw [regAt_eq_some.2 h] at hr; cases hr

theorem windowOffset_eq_some {base addr off : Nat} :
    windowOffset base addr = some off ↔ addr = base + off ∧ off < 0x80 := by
  unfold windowOffset
  split <;> simp <;> omega

/-- A register read leaves the state as it is, or uses up one free draw. -/
theorem readReg_state (r : Reg) (s : State) : (readReg r s).2 = s ∨ (readReg r s).2 = nextDraw s := by
  cases r <;> simp [readReg]
  split <;> simp

theorem busRead_state (off width : Nat) (s : State) :
    (busRead off width s).2.2 = s ∨ (busRead off width s).2.2 = nextDraw s := by
  unfold busRead
  split
  · exact readReg_state _ s
  · exact .inl rfl

/-- A delivery goes on with the reply logged, and perhaps the address recorded. -/
theorem deliver_cases {r : Reply} {s t : State} (h : deliver r s = .next t) :
    t = logReply r s ∨
      (r.response = .error ∧ s.platform.busErrorPolicy = .record ∧
        t = { logReply r s with busErrorLog := r.access.addr :: s.busErrorLog }) := by
  unfold deliver at h
  split at h
  · cases h; exact .inl rfl
  · rename_i hr
    unfold onBusError at h
    split at h
    · cases h
    · cases h; exact .inl rfl
    · rename_i hp
      cases h; exact .inr ⟨hr, by simpa using hp, rfl⟩

@[simp] theorem coreOnly_logReply (r : Reply) (s : State) : coreOnly (logReply r s) = coreOnly s := rfl

@[simp] theorem coreOnly_nextDraw (s : State) : coreOnly (nextDraw s) = coreOnly s := rfl

/-- States with the same CORE part agree on each of its fields. -/
theorem fields_of_coreOnly {s t : State} (h : coreOnly t = coreOnly s) :
    t.ieDone = s.ieDone ∧ t.ieErr = s.ieErr ∧ t.done = s.done ∧ t.err = s.err ∧ t.errcode = s.errcode ∧
      t.keyValid = s.keyValid ∧ t.ctrExh = s.ctrExh ∧ t.key = s.key ∧ t.rk = s.rk ∧ t.din = s.din ∧
      t.dout = s.dout ∧ t.ctr = s.ctr ∧ t.inflight = s.inflight ∧ t.platform = s.platform := by
  simpa [coreOnly] using h

@[simp] theorem coreOnly_dropTurn (s : State) : coreOnly (dropTurn s) = coreOnly s := rfl

/-- A read changes nothing of CORE, and what it leaves of the host's program and of the scheduler's choices. -/
theorem hostRead_next {addr width : Nat} {s t : State} (h : hostRead addr width s = .next t) :
    coreOnly t = coreOnly s ∧ t.program = s.program ∧ t.turns = s.turns := by
  unfold hostRead at h
  split at h
  · cases h
  · rename_i off _
    rcases deliver_cases h with rfl | ⟨-, -, rfl⟩ <;>
      rcases busRead_state off width s with hs | hs <;> simp [hs] <;> rfl

/-- A write either reaches a register, or gets a bus error and changes nothing of CORE. -/
theorem hostWrite_cases {addr width : Nat} {data : Reg32} {s t : State}
    (h : hostWrite addr width data s = .next t) :
    (∃ r, width = 4 ∧ windowOffset s.platform.coreBase addr = some r.offset ∧
      writeReg r data (logReply { access := .write addr width data, response := .okay, value := none } s) =
        .next t) ∨
    (coreOnly t = coreOnly s ∧ t.program = s.program ∧ t.turns = s.turns) := by
  unfold hostWrite at h
  split at h
  · cases h
  · rename_i off hoff
    split at h
    · rename_i r hr
      obtain ⟨hw, ho⟩ := busSelect_eq_ok.1 hr
      exact .inl ⟨r, hw, ho ▸ hoff, h⟩
    · rcases deliver_cases h with rfl | ⟨-, -, rfl⟩
      · exact .inr ⟨rfl, rfl, rfl⟩
      · exact .inr ⟨rfl, rfl, rfl⟩

/-- One poll read changes nothing of CORE, and leaves the program or drops the loop from it. -/
theorem hostPoll_next {addr : Nat} {mask value : Reg32} {rest : List HostOp} {s t : State}
    (h : hostPoll addr mask value rest s = .next t) :
    coreOnly t = coreOnly s ∧ (t.program = s.program ∨ t.program = rest) ∧ t.turns = s.turns := by
  unfold hostPoll at h
  split at h
  · rename_i u hu
    obtain ⟨h1, h2, h3⟩ := hostRead_next hu
    cases h
    split
    · exact ⟨h1, .inr rfl, h3⟩
    · exact ⟨h1, .inl h2, h3⟩
  · cases h
  · cases h

/-- A host step either changes nothing of CORE, or is one accepted register write, the first of its program. -/
theorem hostStep_cases {s t : State} (h : hostStep s = .next t) :
    (coreOnly t = coreOnly s ∧ (t.program = s.program ∨ t.program = s.program.tail) ∧ t.turns = s.turns) ∨
    (∃ r addr data rest, s.program = .access (.write addr 4 data) :: rest ∧
      windowOffset s.platform.coreBase addr = some r.offset ∧
      writeReg r data (logReply { access := .write addr 4 data, response := .okay, value := none }
        { s with program := rest }) = .next t) := by
  unfold hostStep at h
  split at h
  · cases h; exact .inl ⟨rfl, .inl rfl, rfl⟩
  · rename_i a rest hp
    cases a with
    | read addr width =>
      obtain ⟨h1, h2, h3⟩ := hostRead_next h
      exact .inl ⟨h1, .inr (by rw [h2, hp]; rfl), h3⟩
    | write addr width data =>
      rcases hostWrite_cases h with ⟨r, rfl, hw, hr⟩ | ⟨h1, h2, h3⟩
      · exact .inr ⟨r, addr, data, rest, hp, hw, hr⟩
      · exact .inl ⟨h1, .inr (by rw [h2, hp]; rfl), h3⟩
  · rename_i addr mask value rest hp
    obtain ⟨h1, h2, h3⟩ := hostPoll_next h
    refine .inl ⟨h1, ?_, h3⟩
    rcases h2 with h2 | h2
    · exact .inl h2
    · exact .inr (by rw [h2, hp]; rfl)

/-- What an accepted write can do to CORE. -/
theorem writeReg_cases {r : Reg} {v : Reg32} {s t : State} (h : writeReg r v s = .next t) :
    (r = .ctrl ∧ t = writeCtrl v s) ∨
    (r = .status ∧ t = writeStatus v s) ∨
    (r = .cmd ∧ ((∃ i, decode v = some i ∧ exec i s = .next t) ∨
      (decode v = none ∧ t = raiseCmdError (if s.busy then .busy else .illegalCmd) s))) ∨
    (∃ j, r = .dout j ∧ t = s) ∨
    (s.busy = true ∧ (∀ j, r ≠ .dout j) ∧ t = raiseCmdError .busy s) ∨
    (s.busy = false ∧
      ((∃ j, r = .key j ∧ t = setKeyWord j v s) ∨ (∃ j, r = .din j ∧ t = setDinWord j v s) ∨
        (∃ j, r = .ctr j ∧ t = setCtrWord j v s))) := by
  cases r <;> simp only [writeReg, whenIdle, cmdWrite, Host.Outcome.next.injEq] at h
  case cmd => split at h <;> simp_all
  all_goals cases hb : s.busy <;> simp_all

end Sys2Proof.Machine
end

