-- ==== Sys2Proof/Laws/PerInstr.lean ====
section
/-! SUPPORT. The family of per-instruction statements: an instruction is well formed, and the decoder reads its own
word back. -/

namespace Sys2Proof.Laws.RoundTrip

/-- The encoded instruction decodes to itself (30_encoding.md R122, R123). -/
def Statement (i : Instr) : Prop := i.wf = true ∧ decode (encode i) = some i

theorem nop : Statement .nop := by unfold Statement; decide

theorem keyexp : Statement .keyexp := by unfold Statement; decide

theorem ecbEnc : Statement .ecbEnc := by unfold Statement; decide

theorem ecbDec : Statement .ecbDec := by unfold Statement; decide

theorem ctr : Statement .ctr := by unfold Statement; decide

theorem zeroize : Statement .zeroize := by unfold Statement; decide

end Sys2Proof.Laws.RoundTrip
end

