-- ==== Sys2Proof/Laws/Step.lean ====
section
/-! SUPPORT. What one step can do. -/

namespace Sys2Proof.Machine

/-- A step is the host's, the sequencer's or the reset's. -/
theorem step_cases {s t : State} (h : step s = .next t) :
    (nextTurn s = .host ∧ hostStep (dropTurn s) = .next t) ∨
    (nextTurn s = .sequencer ∧ t = complete (dropTurn s)) ∨
    (nextTurn s = .reset ∧ t = takeReset (dropTurn s)) := by
  unfold step takeTurn at h
  split at h <;> simp_all

theorem step_host {s : State} (h : nextTurn s = .host) : step s = hostStep (dropTurn s) := by
  simp [step, takeTurn, h]

theorem step_sequencer {s : State} (h : nextTurn s = .sequencer) :
    step s = .next (complete (dropTurn s)) := by
  simp [step, takeTurn, h]

theorem step_reset {s : State} (h : nextTurn s = .reset) : step s = .next (takeReset (dropTurn s)) := by
  simp [step, takeTurn, h]

/-- Everything a step can do to CORE: nothing; one accepted register write of the host; nothing or one completion at
the sequencer's turn; a reset. -/
theorem step_effect {s t : State} (h : step s = .next t) :
    (nextTurn s = .host ∧ coreOnly t = coreOnly s ∧
      (t.program = s.program ∨ t.program = s.program.tail) ∧ t.turns = s.turns.tail) ∨
    (nextTurn s = .host ∧ ∃ r v rest u,
      s.program = .access (.write (s.platform.coreBase + r.offset) 4 v) :: rest ∧
      coreOnly u = coreOnly s ∧ u.program = rest ∧ u.turns = s.turns.tail ∧ writeReg r v u = .next t) ∨
    (nextTurn s = .sequencer ∧ s.inflight = none ∧ t = dropTurn s) ∨
    (nextTurn s = .sequencer ∧ ∃ f, s.inflight = some f ∧ t = finish (completeOp f (dropTurn s))) ∨
    (nextTurn s = .reset ∧ t = takeReset (dropTurn s)) := by
  rcases step_cases h with ⟨hn, h⟩ | ⟨hn, rfl⟩ | ⟨hn, rfl⟩
  · rcases hostStep_cases h with ⟨h1, h2, h3⟩ | ⟨r, addr, v, rest, hp, hw, hr⟩
    · exact .inl ⟨hn, h1, h2, h3⟩
    · obtain ⟨rfl, -⟩ := windowOffset_eq_some.1 hw
      refine .inr (.inl ⟨hn, r, v, rest, logReply _ { dropTurn s with program := rest }, hp, ?_, ?_, ?_, hr⟩)
      all_goals rfl
  · cases hf : s.inflight with
    | none => exact .inr (.inr (.inl ⟨hn, rfl, complete_idle hf⟩))
    | some f => exact .inr (.inr (.inr (.inl ⟨hn, f, rfl, complete_inflight hf⟩)))
  · exact .inr (.inr (.inr (.inr ⟨hn, rfl⟩)))

end Sys2Proof.Machine
end

