-- ==== Sys2Proof/Tests/Slice0.lean ====
section
/-! SUPPORT. Small tests, their expected results from 95_test_vectors.md (V1 to V13) and the rules named, and for each
statement with hypotheses a witness that meets them. -/

open Sys2Proof Sys2Proof.Machine

namespace Sys2Proof.Tests

/-! ### Helpers -/

/-- A Word from its 8 hex digits. -/
def wordOf (v : Nat) : Word := unpack (BitVec.ofNat 32 v)

/-- A Block from its 32 hex digits. -/
def blockOf (v : Nat) : Block := ⟨wordOf (v >>> 96), wordOf (v >>> 64), wordOf (v >>> 32), wordOf v⟩

/-- The KAT key of V1. -/
def katKey : Key :=
  #v[wordOf 0x603deb10, wordOf 0x15ca71be, wordOf 0x2b73aef0, wordOf 0x857d7781,
    wordOf 0x1f352c07, wordOf 0x3b6108d7, wordOf 0x2d9810a3, wordOf 0x0914dff4]

/-- The next state of an outcome, if there is one. -/
def nextOf {α : Type} : Host.Outcome α Fault Refusal → Option α
  | .next s => some s
  | .fault _ => none
  | .refused _ => none

/-- STATUS of the next state of an outcome. -/
def statusOf (o : Host.Outcome State Fault Refusal) : Option Reg32 := (nextOf o).map statusWord

/-- Idle after KEYEXP of the all-zero key: KEY_VALID = 1. -/
def keyed : State := { State.reset with keyValid := true, done := true, rk := expand Key.zero }

/-- A command in flight, issued from `keyed`. -/
def flying (op : InFlightOp) : State := issue op keyed

/-- One access as the host's next, whatever is in flight. -/
def hostNext (a : HostAccess) (s : State) : State := { s with program := [.access a], turns := [.host] }

/-! ### Decoding: the words of 30_encoding.md R123, written out -/

theorem test_decode_nop : decode 0b00000000000000000000000000000000#32 = some .nop := by decide

theorem test_decode_keyexp : decode 0b00000000000000000000000000000001#32 = some .keyexp := by decide

theorem test_decode_ecbEnc : decode 0b00000000000000000000000000000010#32 = some .ecbEnc := by decide

theorem test_decode_ecbDec : decode 0b00000000000000000000000000000011#32 = some .ecbDec := by decide

theorem test_decode_ctr : decode 0b00000000000000000000000000000100#32 = some .ctr := by decide

theorem test_decode_zeroize : decode 0b00000000000000000000000000000101#32 = some .zeroize := by decide

theorem test_decode_illegal : decode 0x6#32 = none ∧ decode 0xF#32 = none ∧ decode 0x11#32 = none ∧
    decode 0x80000000#32 = none := by decide

theorem test_decodeTableWord : decodeTableWord 32 3 = some .ecbDec ∧ decodeTableWord 8 4 = some .ctr ∧
    decodeTableWord 32 0x10 = none := by decide

/-! ### Well-formedness: an ill-formed term for each check. No instruction is ill formed (R121). -/

theorem test_wf_rsv_bit : CommandWord.wf 0x00000010#32 = false ∧ CommandWord.wf 0x00000005#32 = true := by decide

theorem test_wf_reserved_op : CommandWord.wf 0x00000006#32 = false := by decide

theorem test_wf_access_width : Access.wf 0x04 1 = false ∧ Access.wf 0x04 4 = true := by decide

theorem test_wf_access_alignment : Access.wf 0x02 4 = false := by decide

theorem test_wf_access_reserved : Access.wf 0x0C 4 = false ∧ Access.wf 0x60 4 = false := by decide

theorem test_wf_window : Access.inWindow 0x80 0x100 = false ∧ Access.inWindow 0x80 0x7F = false := by decide

theorem test_wf_platform : Platform.wf ⟨4, 0, .ignore⟩ = false := by decide

theorem test_wf_chk_unbound : Program.wf [] [.rd 0x04 "a", .chk "b" 0] = false := by decide

theorem test_wf_chkBlock_unbound : Program.wf [] [.rd 0x40 "c0", .chkBlock "c" Block.zero] = false := by decide

/-! ### The cipher: V1, V3, V4, V6, V8, V11 -/

theorem test_xtime : xtime 0x57 = 0xAE ∧ xtime 0x80 = 0x1B ∧ xtime 0xFF = 0xE5 := by decide

theorem test_gmul : gmul 0x57 0x83 = 0xC1 ∧ gmul 0x53 13 = 0xAA ∧ gmul 0x80 9 = 0xEC := by decide

theorem test_ginv : ginv 0x53 = 0xCA ∧ ginv 0x00 = 0x00 ∧ ginv 0x80 = 0x83 := by decide +kernel

theorem test_sub : sub 0x53 = 0xED ∧ sub 0xFF = 0x16 ∧ invSub 0x52 = 0x48 ∧ invSub 0xED = 0x53 := by decide

theorem test_affine : affine 0xCA = 0xED := by decide

theorem test_rowShift : rowShift (blockOf 0x000102030405060708090a0b0c0d0e0f) =
    blockOf 0x00050a0f04090e03080d02070c01060b := by decide

theorem test_invRowShift : invRowShift (blockOf 0x000102030405060708090a0b0c0d0e0f) =
    blockOf 0x000d0a0704010e0b0805020f0c090603 := by decide

theorem test_columnMix : columnMix (blockOf 0xdb135345f20a225cd4d4d4d52d26314c) =
    blockOf 0x8e4da1bc9fdc589dd5d5d7d64d7ebdf8 := by decide +kernel

theorem test_invColumnMix : invColumnMix (blockOf 0x8e4da1bc9fdc589dd5d5d7d64d7ebdf8) =
    blockOf 0xdb135345f20a225cd4d4d4d52d26314c := by decide +kernel

theorem test_byteSub : byteSub (blockOf 0x0bfc55f23b8aee28c24ed0e1f6ee60ab) =
    blockOf 0x2bb0fc89e27e2834252f70f84228d062 := by decide +kernel

theorem test_expand : (expand katKey)[14] = blockOf 0xfe4890d1e6188d0b046df344706c631e := by decide +kernel

theorem test_encrypt_kat : encrypt (expand katKey) (blockOf 0x6bc1bee22e409f96e93d7e117393172a) =
    blockOf 0xf3eed1bdb5d2a03c064b5a7e3db181f8 := by decide +kernel

theorem test_decrypt_kat : decrypt (expand katKey) (blockOf 0xf3eed1bdb5d2a03c064b5a7e3db181f8) =
    blockOf 0x6bc1bee22e409f96e93d7e117393172a := by decide +kernel

theorem test_pack : pack (blockOf 0x00112233445566778899aabbccddeeff).q2 = 0x8899AABB#32 ∧
    (blockOf 0x00112233445566778899aabbccddeeff).byte 15 = 0xFF := by decide

theorem test_counter_carry : withCounter Block.zero (counterField (blockOf 0x00000000ffffffff) + 1) =
    blockOf 0x0000000100000000 := by decide

/-! ### The commands: V12 by row number, V9, V11 -/

theorem test_nop_idle : nextOf (exec .nop State.reset) = some State.reset := by decide

theorem test_nop_busy : statusOf (exec .nop (flying .ecbEnc)) = some 0x0000020D#32 := by decide

/-- V12 row 5. -/
theorem test_keyexp_issue : statusOf (exec .keyexp State.reset) = some 0x00000001#32 := by decide

theorem test_keyexp_complete : statusWord (complete (issue .keyexp State.reset)) = 0x0000000A#32 ∧
    (complete (issue .keyexp State.reset)).rk[2] = blockOf 0x62636363626363636263636362636363 := by decide +kernel

/-- V12 row 2. -/
theorem test_ecbEnc_noKey : statusOf (exec .ecbEnc State.reset) = some 0x00000304#32 := by decide

/-- V10, all-zero key and block. -/
theorem test_ecbEnc_complete : (complete (flying .ecbEnc)).dout =
    blockOf 0xdc95c078a2408989ad48a21492842087 := by decide +kernel

/-- V12 row 3. -/
theorem test_ecbDec_noKey : statusOf (exec .ecbDec State.reset) = some 0x00000304#32 := by decide

/-- V10, all-zero key and block. -/
theorem test_ecbDec_complete : (complete (flying .ecbDec)).dout =
    blockOf 0x67671ce1fa91ddeb0f8fbbb366b531b4 := by decide +kernel

/-- V12 row 20. -/
theorem test_ctr_overflow : statusOf (exec .ctr { keyed with ctrExh := true }) = some 0x0000041E#32 := by decide

/-- V11, the last row: no carry into the IV. -/
theorem test_ctr_exhausts :
    (complete (issue .ctr { keyed with ctr := blockOf 0xffffffffffffffff })).ctr = blockOf 0xffffffffffffffff ∧
    (complete (issue .ctr { keyed with ctr := blockOf 0xffffffffffffffff })).ctrExh = true := by decide +kernel

/-- V12 row 6. -/
theorem test_zeroize_issue : statusOf (exec .zeroize State.reset) = some 0x00000001#32 := by decide

/-- V12 row 27. -/
theorem test_zeroize_keeps_err :
    statusWord (complete (issue .zeroize (raiseCmdError .noKey State.reset))) = 0x00000306#32 := by decide

/-! ### Registers, the bus, the step: V12 -/

/-- Row 12. -/
theorem test_din_busy : statusOf (step (hostNext (.write 0x30 4 0x12345678) (issue .keyexp State.reset))) =
    some 0x00000205#32 := by decide

/-- Row 17. -/
theorem test_key_write : statusOf (step (hostNext (.write 0x1C 4 0) keyed)) = some 0x00000002#32 := by decide

/-- Row 18. -/
theorem test_key_read : (nextOf (step (hostNext (.read 0x10 4) keyed))).map lastValue = some 0 := by decide

/-- Row 22. -/
theorem test_ctr_write : statusOf (step (hostNext (.write 0x5C 4 0) { keyed with ctrExh := true })) =
    some 0x0000000A#32 := by decide

/-- Row 25. -/
theorem test_status_write_ro : statusWord (writeStatus 0x19 (raiseCmdError .noKey keyed)) = 0x0000030E#32 := by decide

/-- Row 28. -/
theorem test_ctrl_reserved : ctrlWord (writeCtrl 0xFFFFFFFF State.reset) = 3 := by decide

/-- Row 29. -/
theorem test_irq : irq { keyed with ieDone := true } = true ∧
    irq (writeStatus 2 { keyed with ieDone := true }) = false := by decide

/-- Rows 30, 32, 33. -/
theorem test_bus_errors : busRead 0x0C 4 State.reset = (.error, 0, State.reset) ∧
    busRead 0x04 1 State.reset = (.error, 0, State.reset) ∧
    busRead 0x02 4 State.reset = (.error, 0, State.reset) := by decide

theorem test_step_fetches : statusOf (step (State.reset.withFetchWord 32 1)) = some 0x00000001#32 := by decide

/-- P5: with the turns used up the command in flight completes before the host moves (notes/assumptions entry 1). -/
theorem test_sequencer_default : nextTurn (issue .zeroize State.reset) = .sequencer := by decide

theorem test_poll_repeats : (nextOf (step { flying .ecbEnc with
    program := [.poll 0x04 1 0], turns := [.host] })).map State.program = some [.poll 0x04 1 0] := by decide

theorem test_poll_ends : (nextOf (step { keyed with program := [.poll 0x04 1 0] })).map State.program = some [] := by
  decide

/-- 30_encoding.md R130: CLRST and what it does to a program's transactions. -/
theorem test_program_ops : programOps 0x80 pseudoClrSt = [.access (.write 0x84 4 0x6)] ∧
    programOps 0 pseudoWait = [.poll 0x04 1 0] := by decide

theorem test_checks : checksHold [.rd 4 "s", .chk "s" 0xA]
    [{ access := .read 4 4, response := .okay, value := some 0xA }] [] = true := by decide

/-- An RD without a reply binds no value, so no CHK of its name holds (notes/assumptions entry 19). -/
theorem test_checks_unanswered : checksHold [.rd 4 "s", .chk "s" 0] [] [] = false := by decide

/-! ### Witnesses -/

theorem keyed_inv : keyed.Inv where
  base_aligned := rfl
  rk_expands _ := rfl
  snapshot_live := nofun
  errcode_clear _ := rfl
  errcode_known := nofun
  inflight_not_done := nofun
  inflight_key := nofun
  exhausted := nofun
  inflight_ctr := nofun

theorem flying_inv (op : InFlightOp) : (flying op).Inv where
  base_aligned := rfl
  rk_expands _ := rfl
  snapshot_live := by rintro f ⟨⟩; exact ⟨rfl, rfl, rfl, rfl⟩
  errcode_clear _ := rfl
  errcode_known := nofun
  inflight_not_done := by rintro f ⟨⟩; rfl
  inflight_key := by rintro f ⟨⟩; cases op <;> rfl
  exhausted := nofun
  inflight_ctr := by rintro f ⟨⟩ _; rfl

theorem witness_EncodedCommandDecodesBack : Instr.zeroize.wf = true := rfl

theorem witness_DecoderAcceptsExactlySixWords :
    (0x00000010#32).extractLsb' 4 28 ≠ 0 ∧ (0x0000000F#32).extractLsb' 4 28 = 0 ∧
    6 ≤ ((0x00000006#32).extractLsb' 0 4).toNat ∧ (0x00000005#32).toNat ≤ 5 := by decide

theorem witness_StepRunsDecodedCommand :
    let s := State.reset.withFetchWord 32 1
    nextTurn s = .host ∧ s.program = [.access (.write (s.platform.coreBase + 0x08) 4 1#32)] ∧
    decode 1#32 = some .keyexp ∧ decodeTableWord 32 1 = some .keyexp := by decide

/-- Idle without a key, idle with one, exhausted, and in flight: the cases of the command statements. -/
theorem witness_command_cases :
    (State.reset.inflight = none ∧ State.reset.keyValid = false) ∧
    (keyed.inflight = none ∧ keyed.keyValid = true ∧ keyed.ctrExh = false) ∧
    ({ keyed with ctrExh := true }.inflight = none ∧ { keyed with ctrExh := true }.ctrExh = true) ∧
    (flying .ctr).inflight ≠ none :=
  ⟨⟨rfl, rfl⟩, ⟨rfl, rfl, rfl⟩, ⟨rfl, rfl⟩, nofun⟩

theorem witness_CtrEncryptsAndCounts :
    (counterField (blockOf 0xffffffffffffffff)).toNat = 2 ^ 64 - 1 ∧
    (counterField (blockOf 0xfffffffffffffffe)).toNat ≠ 2 ^ 64 - 1 := by decide

theorem witness_CommandWriteFrame : ∃ t, exec .keyexp keyed = .next t ∧ t.inflight ≠ keyed.inflight ∧
    t.keyValid ≠ keyed.keyValid := ⟨_, rfl, nofun, nofun⟩

theorem witness_CompletionEffects (op : InFlightOp) :
    (flying op).Inv ∧ (∃ f, (flying op).inflight = some f ∧ f.op = op) ∧ nextTurn (flying op) = .sequencer :=
  ⟨flying_inv op, ⟨_, rfl, rfl⟩, rfl⟩

/-- Each cause of a bus error at the ends of its range, and each policy. -/
theorem witness_BusErrorsChangeNothing :
    busSelect 0x04 1 = .error .width ∧ busSelect 0x01 4 = .error .alignment ∧
    busSelect 0x0C 4 = .error .reserved ∧ busSelect 0x60 4 = .error .reserved ∧
    busSelect 0x7C 4 = .error .reserved ∧ State.reset.platform.busErrorPolicy = .ignore ∧
    { State.reset with platform := ⟨0, 0, .record⟩ }.platform.busErrorPolicy = .record ∧
    { State.reset with platform := ⟨0, 0, .fault⟩ }.platform.busErrorPolicy = .fault :=
  ⟨rfl, rfl, rfl, rfl, rfl, rfl, rfl, rfl⟩

theorem witness_RegisterMapHasNoAliases :
    busSelect 0x5C 4 = .ok (.ctr 3) ∧ Reg.offset (.key 7) = 0x2C ∧ (0x10 < 0x60 ∧ 0x10 % 4 = 0 ∧ 0x10 ≠ 0x0C) :=
  ⟨rfl, rfl, by decide⟩

theorem witness_OutsideWindowIsRefused :
    let s := { State.reset with platform := ⟨0x80, 0, .ignore⟩ }
    0x7F < s.platform.coreBase ∧ s.platform.coreBase + 0x80 ≤ 0x100 := by decide

theorem witness_ReadsHaveNoSideEffects :
    (∃ t, hostRead 0x40 4 (flying .ecbEnc) = .next t) ∧ ∃ t, hostPoll 0x04 1 0 [] (flying .ecbEnc) = .next t :=
  ⟨⟨_, rfl⟩, ⟨_, rfl⟩⟩

theorem witness_RepeatedWriteIsOneWrite : ∃ t, writeReg (.key 3) 5#32 keyed = .next t ∧ keyed.inflight = none :=
  ⟨_, rfl, rfl⟩

/-- The four codes of AccessesThatRaiseEachCode, at the ends of their ranges of words. -/
theorem witness_AccessesThatRaiseEachCode :
    5 < (0x00000006#32).toNat ∧ 2 ≤ (0x00000002#32).toNat ∧ (0x00000004#32).toNat = 4 ∧
    (∃ t, writeReg .cmd 2#32 State.reset = .next t ∧ t.err = true) ∧
    { keyed with ctrExh := true }.ctrExh = true ∧ (flying .keyexp).inflight ≠ none :=
  ⟨by decide, by decide, by decide, ⟨_, rfl, rfl⟩, rfl, nofun⟩

/-- Its last idle clause at word 5: ZEROIZE without a key raises no error, and word 4 without one does. -/
theorem witness_AccessesThatRaiseEachCode_boundary :
    State.reset.inflight = none ∧ State.reset.keyValid = false ∧
    (∃ t, writeReg .cmd 5#32 State.reset = .next t ∧ t.err = false) ∧
    (∃ t, writeReg .cmd 4#32 State.reset = .next t ∧ t.err = true ∧ t.errcode = 3) :=
  ⟨rfl, rfl, ⟨_, rfl, rfl⟩, ⟨_, rfl, rfl, rfl⟩⟩

/-- A read and a write at both ends of the register map, with the host to move. -/
theorem witness_AcceptedAccessReachesItsRegister :
    let s := hostNext (.read (0 + Reg.offset .ctrl) 4) (flying .ecbEnc)
    let t := hostNext (.write (0 + Reg.offset (.ctr 3)) 4 7) keyed
    nextTurn s = .host ∧ s.program = [.access (.read (s.platform.coreBase + Reg.offset .ctrl) 4)] ∧
    nextTurn t = .host ∧ t.program = [.access (.write (t.platform.coreBase + Reg.offset (.ctr 3)) 4 7)] :=
  ⟨rfl, rfl, rfl, rfl⟩

theorem witness_HostCannotChangeInFlightResult :
    let s := hostNext (.write 0x30 4 1) (flying .ecbEnc)
    (∃ f, s.inflight = some f) ∧ nextTurn s = .host ∧ ∃ t, step s = .next t :=
  ⟨⟨_, rfl⟩, rfl, ⟨_, rfl⟩⟩

theorem witness_PackingIsBigEndian : keyed.inflight = none := rfl

theorem witness_KeyIsNeverReadable : ∃ t, hostRead 0x10 4 keyed = .next t := ⟨_, rfl⟩

theorem witness_DoutIsReadOnly : ∃ t, step (flying .zeroize) = .next t ∧ step { flying .zeroize with
    dout := blockOf 1 } = .next t ∧ t.dout ≠ blockOf 1 := ⟨_, rfl, rfl, by decide⟩

theorem witness_ResetMeetsInvariant : Platform.wf ⟨0x80, 1, .record⟩ = true := by decide

theorem witness_StepKeepsInvariant : keyed.Inv ∧ ∃ t, step keyed = .next t := ⟨keyed_inv, ⟨_, rfl⟩⟩

/-- A step, a fault and a refusal from states without a valid key. -/
theorem witness_UnspecifiedRoundKeysNeverObserved :
    (flying .keyexp).Inv ∧ (flying .keyexp).keyValid = false ∧ (∃ t, step (flying .keyexp) = .next t) ∧
    step (hostNext (.read 0x0C 4) { State.reset with platform := ⟨0, 0, .fault⟩ }) = .fault (.busError 0x0C) ∧
    step (hostNext (.read 0x80 4) State.reset) = .refused (.outsideWindow 0x80) :=
  ⟨flying_inv .keyexp, rfl, ⟨_, rfl⟩, rfl, rfl⟩

/-- KEY_VALID rises at a completion of KEYEXP, and falls at a reset, an issue and a key write. -/
theorem witness_KeyValidChangesByItsRules :
    (∃ t, step (flying .keyexp) = .next t ∧ t.keyValid = true) ∧
    (∃ t, step { keyed with turns := [.reset] } = .next t ∧ t.keyValid = false) ∧
    (∃ t, step (keyed.withFetchWord 32 5) = .next t ∧ t.keyValid = false) ∧
    (∃ t, step (hostNext (.write 0x10 4 0) keyed) = .next t ∧ t.keyValid = false) ∧ keyed.Inv :=
  ⟨⟨_, rfl, rfl⟩, ⟨_, rfl, rfl⟩, ⟨_, rfl, rfl⟩, ⟨_, rfl, rfl⟩, keyed_inv⟩

theorem witness_RoundKeyStoreWriters :
    ∃ t, step (issue .keyexp State.reset) = .next t ∧ t.rk ≠ (issue .keyexp State.reset).rk :=
  ⟨_, rfl, by decide +kernel⟩

theorem witness_ErrorStaysUntilCleared :
    let s := hostNext (.write 0x04 4 4) (raiseCmdError .noKey State.reset)
    s.err = true ∧ ∃ t, step s = .next t ∧ t.err = false :=
  ⟨rfl, ⟨_, rfl, rfl⟩⟩

/-- DONE rises at a completion, and falls at an issue, a STATUS write and a reset. -/
theorem witness_DoneChangesByItsRules :
    (∃ t, step (flying .ctr) = .next t ∧ t.done = true ∧ (flying .ctr).done = false) ∧ keyed.done = true ∧
    (∃ t, step (keyed.withFetchWord 32 4) = .next t ∧ t.done = false) ∧
    (∃ t, step (hostNext (.write 0x04 4 2) keyed) = .next t ∧ t.done = false) ∧
    (0x2#32).getLsbD 1 = true ∧ nextTurn { keyed with turns := [.reset] } = .reset :=
  ⟨⟨_, rfl, rfl, rfl⟩, rfl, ⟨_, rfl, rfl⟩, ⟨_, rfl, rfl⟩, rfl, rfl⟩

theorem witness_BusyRisesAndFallsByItsRules :
    (∃ t, step (keyed.withFetchWord 32 2) = .next t ∧ t.inflight ≠ none) ∧
    (∃ t, step (flying .ecbEnc) = .next t ∧ t.inflight = none) ∧
    ∃ t, exec .nop keyed = .next t :=
  ⟨⟨_, rfl, nofun⟩, ⟨_, rfl, rfl⟩, ⟨_, rfl⟩⟩

/-- A host with a poll loop still to do, and a scheduler that lets it move first. -/
theorem witness_InFlightCommandCompletes :
    let s := { flying .ecbEnc with program := [.poll 0x04 1 0], turns := [.host, .host] }
    HostOk s ∧ s.inflight ≠ none ∧ Turn.reset ∉ s.turns :=
  ⟨⟨nofun, by decide⟩, nofun, by decide⟩

theorem witness_CtrlReadAndWrite : 2 ≤ 31 ∧ (ctrlWord { keyed with ieDone := true, ieErr := true }).getLsbD 2 = false ∧
    (ctrlWord { keyed with ieErr := true }).getLsbD 1 = true := by decide

/-- Each of the two bits at both its values. -/
theorem witness_StatusWriteOneToClear : (0x2#32).getLsbD 1 = true ∧ (0x2#32).getLsbD 2 = false ∧
    (0x4#32).getLsbD 1 = false ∧ (0x4#32).getLsbD 2 = true := by decide

/-- The first and the last register of each group, idle and in flight. -/
theorem witness_register_writes :
    keyed.inflight = none ∧ (flying .ecbEnc).inflight ≠ none ∧
    (∃ t, writeReg (.key 0) 1#32 keyed = .next t ∧ t.keyValid = false) ∧
    (∃ t, writeReg (.key 7) 1#32 (flying .ecbEnc) = .next t ∧ t.errcode = 2) ∧
    (∃ t, writeReg (.din 3) 1#32 keyed = .next t ∧ t.din ≠ keyed.din) ∧
    (∃ t, writeReg (.ctr 3) 1#32 keyed = .next t ∧ t.ctr ≠ keyed.ctr) :=
  ⟨rfl, nofun, ⟨_, rfl, rfl⟩, ⟨_, rfl, rfl⟩, ⟨_, rfl, by decide⟩, ⟨_, rfl, by decide⟩⟩

/-- A byte on each side of the reduction. -/
theorem witness_XtimeShiftsAndReduces :
    ((0x80#8).setWidth 9 <<< 1).getLsbD 8 = true ∧ ((0x7F#8).setWidth 9 <<< 1).getLsbD 8 = false := by decide

/-- The ends of the range of rounds. -/
theorem witness_FourteenRounds : 1 ≤ (1 : Fin 15).val ∧ (13 : Fin 15).val ≤ 13 := by decide

theorem witness_HostInWindowNeverStops : HostOk keyed := ⟨nofun, nofun⟩

theorem witness_GinvIsTheInverse : (0x01#8 : Byte) ≠ 0x00#8 := by decide

/-- The three forms of the recurrence, and both ends of its range. -/
theorem witness_KeyScheduleRecurrence : 0 < 13 ∧ 12 < 13 ∧ 8 % 8 = 0 ∧ 12 % 8 = 4 ∧ 59 % 8 ≠ 0 ∧ 59 % 8 ≠ 4 ∧ 8 ≤ 59 := by decide

theorem witness_EcbCommandsComputeMessage : State.reset.inflight = none ∧ keyed.inflight = none := ⟨rfl, rfl⟩

theorem witness_CtrCommandsComputeMessage :
    let s := { keyed with ctr := blockOf 0xfffffffffffffffe }
    s.inflight = none ∧ s.keyValid = true ∧ s.rk = expand s.key ∧ s.ctrExh = false ∧
    (counterField s.ctr).toNat + [Block.zero, Block.zero].length ≤ 2 ^ 64 :=
  ⟨rfl, rfl, rfl, rfl, by decide⟩

end Sys2Proof.Tests
end

section
/-! What the register writes and reads of 10_state.md do when the machine is idle and when it is busy. -/

namespace Sys2Proof

theorem Quad.get_set_self {α : Type} (q : Quad α) (i : Fin 4) (a : α) : (q.set i a).get i = a := by
  simp [Quad.get_set]

theorem Quad.get_set_ne {α : Type} (q : Quad α) {i k : Fin 4} (h : k ≠ i) (a : α) :
    (q.set i a).get k = q.get k := by
  simp [Quad.get_set, h]

@[simp] theorem Block.byte_zero (i : Fin 16) : Block.zero.byte i = 0x00 := by
  revert i; decide

@[simp] theorem Key.byte_zero (i : Fin 32) : Key.zero.byte i = 0x00 := by
  revert i; decide

end Sys2Proof

namespace Sys2Proof.Machine

theorem whenIdle_of_idle {store : State → State} {s : State} (h : s.inflight = none) :
    whenIdle store s = store s := by
  simp [whenIdle, busy_eq_false.2 h]

theorem whenIdle_of_inflight {store : State → State} {s : State} (h : s.inflight ≠ none) :
    whenIdle store s = raiseCmdError .busy s := by
  simp [whenIdle, busy_eq_true.2 (Option.ne_none_iff_exists'.1 h)]

/-- 10_state.md R45: the counter field is the number `{CTR2, CTR3}`. -/
theorem counterField_toNat (b : Block) :
    (counterField b).toNat = (pack b.q2).toNat * 2 ^ 32 + (pack b.q3).toNat := by
  rw [counterField, BitVec.toNat_append, ← Nat.shiftLeft_add_eq_or_of_lt (pack b.q3).isLt,
    Nat.shiftLeft_eq]

/-- The completion of ZEROIZE is the only one that writes din. -/
theorem completeOp_din {f : InFlight} (hf : f.op ≠ .zeroize) (s : State) :
    (completeOp f s).din = s.din := by
  rcases completeOp_cases f s with ⟨-, e⟩ | ⟨-, e⟩ | ⟨-, e⟩ | ⟨-, e⟩ | ⟨hz, -⟩
  · simp [e]
  · simp [e]
  · simp [e]
  · simp [e]
  · exact absurd hz hf

theorem exec_din {i : Instr} {s t : State} (h : exec i s = .next t) : t.din = s.din := by
  rcases exec_cases h with ⟨c, rfl, -⟩ | ⟨-, -, rfl⟩ | ⟨op, -, -, rfl, -⟩
  · simp
  · rfl
  · simp

/-- Settles O19: the store of an idle machine, then the rejection of a busy one. -/
theorem keyWriteClearsKeyValid : Obligations.KeyWriteClearsKeyValid := by
  refine ⟨fun s j v => ⟨fun hidle => ?_, fun hbusy => ?_, rfl⟩, Key.byte_zero⟩
  · have hself : (setKeyWord j v s).key[j] = unpack v := by simp
    refine ⟨setKeyWord j v s, ?_, rfl, ?_, hself, fun k hk => ?_, fun _ => rfl⟩
    · rw [writeReg, whenIdle_of_idle hidle]
    · rw [hself, pack_unpack]
    · exact Vector.getElem_set_ne j.isLt k.isLt fun h => hk (Fin.ext h.symm)
  · rw [writeReg, whenIdle_of_inflight hbusy]

/-- Settles O20: a store is read back by `pack_unpack`, and `exec` and every completion but ZEROIZE's keep din. -/
theorem dinHoldsInputBlock : Obligations.DinHoldsInputBlock := by
  refine ⟨fun s j v => ⟨fun hidle => ?_, fun hbusy => ?_, rfl⟩, fun _ _ _ => exec_din,
    fun s f hf hz => ?_, Block.byte_zero⟩
  · have hself : (setDinWord j v s).din.get j = unpack v := Quad.get_set_self ..
    refine ⟨setDinWord j v s, ?_, rfl, hself, fun k hk => Quad.get_set_ne _ hk _, ?_⟩
    · rw [writeReg, whenIdle_of_idle hidle]
    · rw [readReg, hself, pack_unpack]
  · rw [writeReg, whenIdle_of_inflight hbusy]
  · rw [complete_inflight hf, finish_din, completeOp_din hz]

/-- Settles O22: the store as for DIN, and the counter field as the append of its two registers. -/
theorem ctrWriteClearsExhaustion : Obligations.CtrWriteClearsExhaustion := by
  refine ⟨fun s j v => ⟨fun hidle => ?_, fun hbusy => ?_, rfl⟩, fun s => counterField_toNat s.ctr,
    Block.byte_zero⟩
  · have hself : (setCtrWord j v s).ctr.get j = unpack v := Quad.get_set_self ..
    refine ⟨setCtrWord j v s, ?_, rfl, hself, fun k hk => Quad.get_set_ne _ hk _, ?_⟩
    · rw [writeReg, whenIdle_of_idle hidle]
    · rw [readReg, hself, pack_unpack]
  · rw [writeReg, whenIdle_of_inflight hbusy]

end Sys2Proof.Machine
end

section
/-! The CTRL and STATUS registers as they read and as they are written (10_state.md R33 to R35). -/

namespace Sys2Proof.Machine

theorem getLsbD_append_ofBool_zero {w : Nat} (x : BitVec w) (b : Bool) :
    (x ++ BitVec.ofBool b).getLsbD 0 = b := by
  rw [BitVec.getLsbD_append, if_pos Nat.zero_lt_one, BitVec.getLsbD_ofBool, decide_eq_true rfl,
    Bool.true_and]

theorem getLsbD_append_ofBool_succ {w : Nat} (x : BitVec w) (b : Bool) (i : Nat) :
    (x ++ BitVec.ofBool b).getLsbD (i + 1) = x.getLsbD i := by
  simp [BitVec.getLsbD_append]

section
variable (s : State)

theorem ctrlWord_ieDone : (ctrlWord s).getLsbD 0 = s.ieDone := by
  rw [ctrlWord, getLsbD_append_ofBool_zero]

theorem ctrlWord_ieErr : (ctrlWord s).getLsbD 1 = s.ieErr := by
  rw [ctrlWord, getLsbD_append_ofBool_succ, getLsbD_append_ofBool_zero]

theorem ctrlWord_reserved {i : Nat} (hi : 2 ≤ i) : (ctrlWord s).getLsbD i = false := by
  obtain ⟨k, rfl⟩ := Nat.exists_eq_add_of_le' hi
  rw [ctrlWord, getLsbD_append_ofBool_succ, getLsbD_append_ofBool_succ]
  exact BitVec.getLsbD_zero

theorem statusWord_busy : (statusWord s).getLsbD 0 = s.busy := by
  rw [statusWord, getLsbD_append_ofBool_zero]

theorem statusWord_done : (statusWord s).getLsbD 1 = s.done := by
  rw [statusWord, getLsbD_append_ofBool_succ, getLsbD_append_ofBool_zero]

theorem statusWord_err : (statusWord s).getLsbD 2 = s.err := by
  rw [statusWord, getLsbD_append_ofBool_succ, getLsbD_append_ofBool_succ,
    getLsbD_append_ofBool_zero]

theorem statusWord_keyValid : (statusWord s).getLsbD 3 = s.keyValid := by
  rw [statusWord, getLsbD_append_ofBool_succ, getLsbD_append_ofBool_succ,
    getLsbD_append_ofBool_succ, getLsbD_append_ofBool_zero]

theorem statusWord_ctrExh : (statusWord s).getLsbD 4 = s.ctrExh := by
  rw [statusWord, getLsbD_append_ofBool_succ, getLsbD_append_ofBool_succ,
    getLsbD_append_ofBool_succ, getLsbD_append_ofBool_succ, getLsbD_append_ofBool_zero]

/-- A field above bit 4 is one of the word above the five flags. -/
theorem statusWord_extractLsb' {start : Nat} (len : Nat) (h : 5 ≤ start) :
    (statusWord s).extractLsb' start len =
      ((0 : BitVec 20) ++ s.errcode ++ (0 : BitVec 3)).extractLsb' (start - 5) len := by
  unfold statusWord
  iterate 5 rw [BitVec.extractLsb'_append_eq_of_le (by omega)]
  congr 1

theorem statusWord_reserved_low : (statusWord s).extractLsb' 5 3 = 0 := by
  rw [statusWord_extractLsb' s 3 (by omega), BitVec.extractLsb'_append_eq_right]

theorem statusWord_errcode : (statusWord s).extractLsb' 8 4 = s.errcode := by
  rw [statusWord_extractLsb' s 4 (by omega), BitVec.extractLsb'_append_eq_of_le (by omega),
    BitVec.extractLsb'_append_eq_right]

theorem statusWord_reserved_high : (statusWord s).extractLsb' 12 20 = 0 := by
  rw [statusWord_extractLsb' s 20 (by omega), BitVec.extractLsb'_append_eq_of_le (by omega),
    BitVec.extractLsb'_append_eq_left]

end

/-- Settles O16, by the bits of `ctrlWord`. -/
theorem ctrlReadAndWrite : Obligations.CtrlReadAndWrite := fun s =>
  ⟨fun _ => rfl, rfl, ctrlWord_ieDone s, ctrlWord_ieErr s, fun _ => ctrlWord_reserved s⟩

/-- Settles O17, by the fields of `statusWord`. -/
theorem statusReadLayout : Obligations.StatusReadLayout :=
  ⟨fun s => ⟨rfl, statusWord_busy s, statusWord_done s, statusWord_err s, statusWord_keyValid s,
    statusWord_ctrExh s, statusWord_reserved_low s, statusWord_errcode s, statusWord_reserved_high s⟩,
    rfl⟩

/-- Settles O18: the fields of `writeStatus`, at each value of the two bits. -/
theorem statusWriteOneToClear : Obligations.StatusWriteOneToClear := by
  intro s v
  refine ⟨writeStatus v s, rfl, rfl, fun h1 => ?_, fun h1 => ?_, fun h2 => ?_, fun h2 => ?_⟩
  · simp only [writeStatus_done, h1, Bool.not_true, Bool.and_false]
  · simp only [writeStatus_done, h1, Bool.not_false, Bool.and_true]
  · simp only [writeStatus_err, writeStatus_errcode, h2, Bool.not_true, Bool.and_false, if_true, and_self]
  · simp only [writeStatus_err, writeStatus_errcode, h2, Bool.not_false, Bool.and_true, Bool.false_eq_true,
      if_false, and_self]

end Sys2Proof.Machine
end

section
/-! What a step does to BUSY and DONE (10_state.md R36, R37). -/

namespace Sys2Proof.Machine

/-- It is the host's turn, and its next access is an aligned word write of `v` to the register `r`. -/
def HostWrites (r : Reg) (v : Reg32) (s : State) : Prop :=
  nextTurn s = .host ∧
    ∃ rest, s.program = .access (.write (s.platform.coreBase + r.offset) 4 v) :: rest

theorem busy_done_of_coreOnly {s t : State} (h : coreOnly t = coreOnly s) :
    t.inflight = s.inflight ∧ t.done = s.done := by
  obtain ⟨-, -, hd, -, -, -, -, -, -, -, -, -, hi, -⟩ := fields_of_coreOnly h
  exact ⟨hi, hd⟩

/-- The snapshot is taken from CORE's part of the state. -/
theorem issue_inflight_of_coreOnly {s t : State} (h : coreOnly t = coreOnly s) (op : InFlightOp) :
    (issue op t).inflight = (issue op s).inflight := by
  obtain ⟨-, -, -, -, -, -, -, hkey, hrk, hdin, -, hctr, -⟩ := fields_of_coreOnly h
  simp [hkey, hrk, hdin, hctr]

/-- A register write issues a command, or it leaves BUSY as it is, and leaves DONE too unless it is a STATUS write. -/
theorem writeReg_busy_done {r : Reg} {v : Reg32} {s t : State} (h : writeReg r v s = .next t) :
    (r = .cmd ∧ s.inflight = none ∧ ∃ op, decode v = some (instrOf op) ∧ t = issue op s) ∨
    (t.inflight = s.inflight ∧ (t.done = s.done ∨ r = .status ∧ t.done = (s.done && !v.getLsbD 1))) := by
  rcases writeReg_cases h with ⟨-, rfl⟩ | ⟨hr, rfl⟩ | ⟨hr, ⟨i, hi, he⟩ | ⟨-, rfl⟩⟩ | ⟨j, -, rfl⟩ |
    ⟨-, -, rfl⟩ | ⟨-, ⟨j, -, rfl⟩ | ⟨j, -, rfl⟩ | ⟨j, -, rfl⟩⟩
  · exact .inr ⟨rfl, .inl rfl⟩
  · exact .inr ⟨rfl, .inr ⟨hr, rfl⟩⟩
  · rcases exec_cases he with ⟨c, rfl, -⟩ | ⟨-, -, rfl⟩ | ⟨op, rfl, hb, rfl, -⟩
    · exact .inr ⟨rfl, .inl rfl⟩
    · exact .inr ⟨rfl, .inl rfl⟩
    · exact .inl ⟨hr, busy_eq_false.1 hb, op, hi, rfl⟩
  · exact .inr ⟨rfl, .inl rfl⟩
  · exact .inr ⟨rfl, .inl rfl⟩
  · exact .inr ⟨rfl, .inl rfl⟩
  · exact .inr ⟨rfl, .inl rfl⟩
  · exact .inr ⟨rfl, .inl rfl⟩
  · exact .inr ⟨rfl, .inl rfl⟩

/-- What a step does to BUSY and DONE: a host step issues a command, or leaves BUSY and (but for a STATUS write) DONE;
the sequencer ends what is in flight and sets DONE if there was anything; a reset clears both. -/
theorem step_busy_done {s t : State} (h : step s = .next t) :
    (s.inflight = none ∧ ∃ v op u, HostWrites .cmd v s ∧ decode v = some (instrOf op) ∧
      coreOnly u = coreOnly s ∧ t = issue op u) ∨
    (nextTurn s = .host ∧ t.inflight = s.inflight ∧
      (t.done = s.done ∨ ∃ v, HostWrites .status v s ∧ t.done = (s.done && !v.getLsbD 1))) ∨
    (nextTurn s = .sequencer ∧ t.inflight = none ∧ t.done = (s.done || s.busy)) ∨
    (nextTurn s = .reset ∧ t.inflight = none ∧ t.done = false) := by
  rcases step_effect h with ⟨hn, hc, -⟩ | ⟨hn, r, v, rest, u, hp, hc, -, -, hw⟩ | ⟨hn, hf, rfl⟩ |
    ⟨hn, f, hf, rfl⟩ | ⟨hn, rfl⟩
  · obtain ⟨hi, hd⟩ := busy_done_of_coreOnly hc
    exact .inr (.inl ⟨hn, hi, .inl hd⟩)
  · obtain ⟨hinflight, hdone⟩ := busy_done_of_coreOnly hc
    rcases writeReg_busy_done hw with ⟨rfl, hidle, op, hd, ht⟩ | ⟨hi, hd | ⟨rfl, hd⟩⟩
    · exact .inl ⟨hinflight ▸ hidle, v, op, u, ⟨hn, rest, hp⟩, hd, hc, ht⟩
    · exact .inr (.inl ⟨hn, hi.trans hinflight, .inl (hd.trans hdone)⟩)
    · exact .inr (.inl ⟨hn, hi.trans hinflight, .inr ⟨v, ⟨hn, rest, hp⟩, hdone ▸ hd⟩⟩)
  · exact .inr (.inr (.inl ⟨hn, hf, by simp [busy_eq_false.2 hf]⟩))
  · exact .inr (.inr (.inl ⟨hn, rfl, by simp [busy_eq_true.2 ⟨f, hf⟩]⟩))
  · exact .inr (.inr (.inr ⟨hn, rfl, rfl⟩))

/-- DONE rises only at a completion. -/
theorem step_done_rise {s t : State} (h : step s = .next t) (hs : s.done = false) (ht : t.done = true) :
    nextTurn s = .sequencer ∧ s.inflight ≠ none := by
  rcases step_busy_done h with ⟨-, v, op, u, -, -, -, rfl⟩ | ⟨-, -, hd | ⟨v, -, hd⟩⟩ | ⟨hn, -, hd⟩ |
    ⟨-, -, hd⟩
  · simp at ht
  · simp [hd, hs] at ht
  · simp [hd, hs] at ht
  · have hbusy : s.busy = true := by simpa [hs, ht] using hd.symm
    exact ⟨hn, Option.ne_none_iff_exists'.2 (busy_eq_true.1 hbusy)⟩
  · simp [hd] at ht

/-- DONE falls only at a reset, at an issue, or at a STATUS write with bit 1 set. -/
theorem step_done_fall {s t : State} (h : step s = .next t) (hs : s.done = true) (ht : t.done = false) :
    nextTurn s = .reset ∨
    (nextTurn s = .host ∧ ((s.inflight = none ∧ t.inflight ≠ none) ∨
      ∃ v, HostWrites .status v s ∧ v.getLsbD 1 = true)) := by
  rcases step_busy_done h with ⟨hidle, v, op, u, hw, -, -, rfl⟩ | ⟨hn, -, hd | ⟨v, hw, hd⟩⟩ |
    ⟨-, -, hd⟩ | ⟨hn, -⟩
  · exact .inr ⟨hw.1, .inl ⟨hidle, nofun⟩⟩
  · simp [hd, hs] at ht
  · exact .inr ⟨hn, .inr ⟨v, hw, by simpa [hs, ht] using hd⟩⟩
  · simp [hd, hs] at ht
  · exact .inl hn

/-- BUSY rises only at the CMD write that issues a command, which takes the snapshot of the registers. -/
theorem step_busy_rise {s t : State} (h : step s = .next t) (hs : s.inflight = none)
    (ht : t.inflight ≠ none) :
    ∃ v op, HostWrites .cmd v s ∧ decode v = some (instrOf op) ∧ t.inflight = (issue op s).inflight := by
  rcases step_busy_done h with ⟨-, v, op, u, hw, hd, hc, rfl⟩ | ⟨-, hi, -⟩ | ⟨-, hi, -⟩ | ⟨-, hi, -⟩
  · exact ⟨v, op, hw, hd, issue_inflight_of_coreOnly hc op⟩
  · exact absurd (hi.trans hs) ht
  · exact absurd hi ht
  · exact absurd hi ht

/-- BUSY falls exactly at the turn of the sequencer and at a reset. -/
theorem step_busy_fall {s t : State} (h : step s = .next t) (hs : s.inflight ≠ none) :
    t.inflight = none ↔ nextTurn s = .sequencer ∨ nextTurn s = .reset := by
  rcases step_busy_done h with ⟨hidle, -⟩ | ⟨hn, hi, -⟩ | ⟨hn, hi, -⟩ | ⟨hn, hi, -⟩
  · exact absurd hidle hs
  · simp [hn, hi, hs]
  · simp [hn, hi]
  · simp [hn, hi]

theorem step_sequencer_done {s : State} (hs : s.inflight ≠ none) (hn : nextTurn s = .sequencer) :
    ∃ t, step s = .next t ∧ t.done = true := by
  obtain ⟨f, hf⟩ := Option.ne_none_iff_exists'.1 hs
  refine ⟨_, step_sequencer hn, ?_⟩
  rw [complete_inflight (f := f) (by simpa using hf), finish_done]

theorem exec_nop_inflight {s t : State} (h : exec .nop s = .next t) : t.inflight = s.inflight := by
  rcases exec_cases h with ⟨c, rfl, -⟩ | ⟨-, -, rfl⟩ | ⟨op, hop, -⟩
  · rfl
  · rfl
  · cases op <;> cases hop

/-- Settles O41, from what a step does to BUSY and DONE. -/
theorem doneChangesByItsRules : Obligations.DoneChangesByItsRules := by
  refine ⟨fun s => step_sequencer_done, fun _ _ => rfl, fun s v hv => ⟨_, rfl, by simp [hv]⟩,
    fun s hn => ⟨_, step_reset hn, rfl⟩, fun _ _ => rfl, fun s t h => ⟨step_done_rise h, fun hs ht => ?_⟩⟩
  rcases step_done_fall h hs ht with hn | ⟨hn, hissue | ⟨v, ⟨-, rest, hp⟩, hv⟩⟩
  · exact .inl hn
  · exact .inr ⟨hn, .inl hissue⟩
  · exact .inr ⟨hn, .inr ⟨v, rest, hp, hv⟩⟩

/-- Settles O42, from what a step does to BUSY. -/
theorem busyRisesAndFallsByItsRules : Obligations.BusyRisesAndFallsByItsRules := by
  refine ⟨fun s => ?_, fun s t h hs ht => ?_, fun _ _ => nofun, fun _ _ => step_busy_fall,
    fun _ _ => exec_nop_inflight⟩
  · rw [readReg, statusWord_busy, busy_eq_true, Option.ne_none_iff_exists']
  · obtain ⟨v, op, ⟨hn, rest, hp⟩, hd, hi⟩ := step_busy_rise h hs ht
    exact ⟨hn, v, rest, instrOf op, op, hp, hd, rfl, hi⟩

end Sys2Proof.Machine
end

section
/-! The register map of 20_memory.md R81: offsets and registers determine each other. -/

namespace Sys2Proof.Machine

theorem regOffset_injective : Function.Injective Reg.offset := by
  intro r q h
  have hr : regAt r.offset = some r := regAt_eq_some.2 rfl
  have hq : regAt r.offset = some q := regAt_eq_some.2 h
  exact Option.some.inj (hr.symm.trans hq)

/-- The map has no gap below 0x60 but the word at 0x0C. -/
theorem exists_offset_eq {off : Nat} (hlt : off < 0x60) (hmod : off % 4 = 0) (hgap : off ≠ 0x0C) :
    ∃ r : Reg, r.offset = off := by
  have hfull : ∀ k < 24, k ≠ 3 → (regAt (4 * k)).isSome := by decide
  obtain ⟨k, rfl⟩ := Nat.dvd_of_mod_eq_zero hmod
  obtain ⟨r, hr⟩ := Option.isSome_iff_exists.1 (hfull k (by omega) (by omega))
  exact ⟨r, (regAt_eq_some.1 hr).symm⟩

/-- Settles O24: `busSelect` and `regAt` answer exactly the register with the given offset. -/
theorem registerMapHasNoAliases : Obligations.RegisterMapHasNoAliases :=
  ⟨⟨rfl, rfl, rfl, fun _ => rfl, fun _ => rfl, fun _ => rfl, fun _ => rfl⟩,
    fun _ _ _ => busSelect_eq_ok, fun _ _ h => regOffset_injective h,
    fun _ => exists_offset_eq⟩

end Sys2Proof.Machine
end

section
/-! The byte order of the registers (20_memory.md R86) and the words of the key in the key schedule. -/

namespace Sys2Proof

theorem Block.byte_eq_get (b : Block) (j k : Fin 4) :
    b.byte ⟨4 * j.val + k.val, by omega⟩ = (b.get j).get k := by
  have hdiv : (4 * j.val + k.val) / 4 = j.val := by omega
  have hmod : (4 * j.val + k.val) % 4 = k.val := by omega
  simp only [Block.byte, hdiv, hmod]

theorem Key.byte_eq_get (key : Key) (j : Fin 8) (k : Fin 4) :
    key.byte ⟨4 * j.val + k.val, by omega⟩ = key[j].get k := by
  have hdiv : (4 * j.val + k.val) / 4 = j.val := by omega
  have hmod : (4 * j.val + k.val) % 4 = k.val := by omega
  simp only [Key.byte, hdiv, hmod, Fin.getElem_fin]

end Sys2Proof

namespace Sys2Proof.Machine

/-- Byte `k` of a word, counted from the first, stands in the packed register `k` bytes below the top. -/
theorem pack_extractLsb' (w : Word) (k : Fin 4) :
    (pack w).extractLsb' (8 * (3 - k.val)) 8 = w.get k := by
  have hw := unpack_pack w
  match k with
  | 0 => exact congrArg Quad.q0 hw
  | 1 => exact congrArg Quad.q1 hw
  | 2 => exact congrArg Quad.q2 hw
  | 3 => exact congrArg Quad.q3 hw

theorem roundKeyOf_get (ws : List Word) (r : Nat) (c : Fin 4) :
    (roundKeyOf ws r).get c = ws.getD (4 * r + c.val) Word.zero := by
  fin_cases c <;> rfl

/-- The expander only puts new words in front of the ones it has. -/
theorem suffix_extendWords (n : Nat) (ws : List Word) : ws <:+ extendWords n ws := by
  induction n generalizing ws with
  | zero => exact List.suffix_rfl
  | succ n ih => exact (List.suffix_cons _ ws).trans (ih _)

theorem expandWords_startsWith_key (key : Key) : key.toList <+: expandWords key := by
  rw [expandWords, ← List.reverse_suffix, List.reverse_reverse]
  exact suffix_extendWords 52 _

/-- 42_key_schedule.md R193: `w[j]` of the schedule is word `j` of the key. -/
theorem expandWords_getD (key : Key) {j : Nat} (hj : j < 8) :
    (expandWords key).getD j Word.zero = key[j] := by
  obtain ⟨ws, hws⟩ := expandWords_startsWith_key key
  have hlen : j < key.toList.length := by simpa using hj
  rw [← hws, List.getD_append _ _ _ _ hlen, List.getD_eq_getElem _ _ hlen, Vector.getElem_toList]

theorem expand_key_words (key : Key) (j : Fin 4) :
    (expand key)[0].get j = key[j.val] ∧ (expand key)[1].get j = key[4 + j.val] := by
  constructor
  · calc (expand key)[0].get j = (roundKeyOf (expandWords key) 0).get j := rfl
      _ = (expandWords key).getD (4 * 0 + j.val) Word.zero := roundKeyOf_get ..
      _ = key[j.val] := by rw [Nat.mul_zero, Nat.zero_add, expandWords_getD]
  · calc (expand key)[1].get j = (roundKeyOf (expandWords key) 1).get j := rfl
      _ = (expandWords key).getD (4 * 1 + j.val) Word.zero := roundKeyOf_get ..
      _ = key[4 + j.val] := expandWords_getD key (by omega)

theorem readReg_dout_idle {s : State} (h : s.inflight = none) (j : Fin 4) :
    readReg (.dout j) s = (pack (s.dout.get j), s) := by
  simp [readReg, busy_eq_false.2 h]

/-- Settles O30: the place of each byte by `pack_extractLsb'`, and KEYj as `w[j]` since the expander keeps the key. -/
theorem packingIsBigEndian : Obligations.PackingIsBigEndian := by
  refine ⟨fun w => ⟨pack_extractLsb' w 0, pack_extractLsb' w 1, pack_extractLsb' w 2,
    pack_extractLsb' w 3, unpack_pack w⟩, pack_unpack, fun s j k => ?_,
    fun s => expand_key_words s.key, fun _ => rfl, fun s j k => ⟨?_, ?_, fun hidle => ?_⟩⟩
  · rw [pack_extractLsb', Key.byte_eq_get]
  · rw [readReg, pack_extractLsb', Block.byte_eq_get]
  · rw [readReg, pack_extractLsb', Block.byte_eq_get]
  · rw [readReg_dout_idle hidle, pack_extractLsb', Block.byte_eq_get]

end Sys2Proof.Machine
end

section
/-! A command in flight and the host (20_memory.md R97). -/

namespace Sys2Proof.Machine

/-- The part of CORE a completion computes from and into: the data registers, the round-key store, KEY_VALID, CTR_EXH
and the command in flight. The enables, DONE and the error record are blanked. -/
def dataOnly (s : State) : State :=
  { coreOnly s with ieDone := false, ieErr := false, done := false, err := false, errcode := 0 }

theorem fields_of_dataOnly {s t : State} (h : dataOnly t = dataOnly s) :
    t.keyValid = s.keyValid ∧ t.ctrExh = s.ctrExh ∧ t.key = s.key ∧ t.rk = s.rk ∧ t.din = s.din ∧
      t.dout = s.dout ∧ t.ctr = s.ctr ∧ t.inflight = s.inflight := by
  have hcore : coreOnly (dataOnly t) = coreOnly (dataOnly s) := congrArg coreOnly h
  obtain ⟨-, -, -, -, -, hkv, hexh, hkey, hrk, hdin, hdout, hctr, hf, -⟩ := fields_of_coreOnly hcore
  exact ⟨hkv, hexh, hkey, hrk, hdin, hdout, hctr, hf⟩

theorem dataOnly_of_coreOnly {s t : State} (h : coreOnly t = coreOnly s) : dataOnly t = dataOnly s := by
  simp only [dataOnly, h]

theorem dataOnly_completeOp (f : InFlight) (s : State) :
    dataOnly (completeOp f s) = dataOnly (completeOp f (dataOnly s)) := by
  obtain ⟨op, key, rk, din, ctr⟩ := f
  cases op <;> rfl

theorem dataOnly_finish (s : State) : dataOnly (finish s) = { dataOnly s with inflight := none } := rfl

/-- What a completion leaves in the data part depends on the data part alone. -/
theorem dataOnly_complete (s : State) : dataOnly (complete s) = dataOnly (complete (dataOnly s)) := by
  cases hf : s.inflight with
  | none => rw [complete_idle hf, complete_idle (s := dataOnly s) hf]; rfl
  | some f =>
    rw [complete_inflight hf, complete_inflight (s := dataOnly s) hf, dataOnly_finish, dataOnly_finish,
      ← dataOnly_completeOp]

/-- While a command is in flight a register write can change only the enables, DONE and the error record. -/
theorem writeReg_dataOnly {r : Reg} {v : Reg32} {s t : State} (hs : s.busy = true)
    (h : writeReg r v s = .next t) : dataOnly t = dataOnly s := by
  rcases writeReg_cases h with ⟨-, rfl⟩ | ⟨-, rfl⟩ | ⟨-, ⟨i, -, he⟩ | ⟨-, rfl⟩⟩ | ⟨j, -, rfl⟩ |
    ⟨-, -, rfl⟩ | ⟨hidle, -⟩
  · rfl
  · rfl
  · rcases exec_cases he with ⟨c, rfl, -⟩ | ⟨-, -, rfl⟩ | ⟨op, -, hidle, -⟩
    · rfl
    · rfl
    · simp [hs] at hidle
  · rfl
  · rfl
  · rfl
  · simp [hs] at hidle

theorem step_host_dataOnly {s t : State} (hs : s.busy = true) (hn : nextTurn s = .host)
    (h : step s = .next t) : dataOnly t = dataOnly s := by
  rcases step_effect h with ⟨-, hc, -⟩ | ⟨-, r, v, rest, u, -, hc, -, -, hw⟩ | ⟨hn', -⟩ | ⟨hn', -⟩ |
    ⟨hn', -⟩
  · exact dataOnly_of_coreOnly hc
  · obtain ⟨hu, -⟩ := busy_done_of_coreOnly hc
    have hbusy : u.busy = true := by rw [State.busy, hu]; exact hs
    exact (writeReg_dataOnly hbusy hw).trans (dataOnly_of_coreOnly hc)
  · simp [hn] at hn'
  · simp [hn] at hn'
  · simp [hn] at hn'

/-- Settles O29: a host step keeps the data part, which alone decides what the completion leaves in it. -/
theorem hostCannotChangeInFlightResult : Obligations.HostCannotChangeInFlightResult := by
  refine ⟨fun _ _ => rfl, fun s v hbusy => ?_, fun s t f hf hn h => ?_⟩
  · have hreject (store : State → State) :
        Host.Outcome.next (φ := Fault) (ρ := Refusal) (whenIdle store s) = .next (raiseCmdError .busy s) :=
      congrArg _ (whenIdle_of_inflight hbusy)
    exact ⟨fun _ => hreject _, fun _ => hreject _, fun _ => hreject _⟩
  · have hdata : dataOnly t = dataOnly s := step_host_dataOnly (busy_eq_true.2 ⟨f, hf⟩) hn h
    have hresult : dataOnly (complete t) = dataOnly (complete s) := by
      rw [dataOnly_complete t, hdata, ← dataOnly_complete s]
    obtain ⟨-, -, hkey, hrk, hdin, -, hctr, hinflight⟩ := fields_of_dataOnly hdata
    obtain ⟨ckv, cexh, ckey, crk, cdin, cdout, cctr, -⟩ := fields_of_dataOnly hresult
    exact ⟨hinflight.trans hf, hkey, hrk, hdin, hctr, ckey, crk, cdin, cdout, cctr, ckv, cexh⟩

end Sys2Proof.Machine
end

section
/-! The decoder by the two fields of a command word (30_encoding.md R121, R122). -/

namespace Sys2Proof

theorem decode_of_rsvField_ne_zero {v : Reg32} (h : rsvField v ≠ 0) : decode v = none := if_pos h

theorem decode_of_rsvField_eq_zero {v : Reg32} (h : rsvField v = 0) :
    decode v = decodeOp (opField v).toNat :=
  if_neg (not_not_intro h)

/-- The case on OP accepts 0 to 5 and nothing else. -/
theorem decodeOp_eq_none_iff {op : Nat} : decodeOp op = none ↔ 6 ≤ op := by
  match op with
  | 0 | 1 | 2 | 3 | 4 | 5 => simp [decodeOp]
  | n + 6 => simp [decodeOp]

/-- A command word as a number, from its fields. -/
theorem toNat_eq_rsvField_opField (v : Reg32) :
    v.toNat = 16 * (rsvField v).toNat + (opField v).toNat := by
  simp only [rsvField, opField, BitVec.extractLsb'_toNat, Nat.shiftRight_eq_div_pow]
  omega

theorem decode_eq_none_iff {v : Reg32} : decode v = none ↔ 6 ≤ v.toNat := by
  have hv := toNat_eq_rsvField_opField v
  by_cases h : rsvField v = 0
  · rw [decode_of_rsvField_eq_zero h, decodeOp_eq_none_iff, hv, h]
    simp
  · have hpos : (rsvField v).toNat ≠ 0 := fun h0 => h (BitVec.eq_of_toNat_eq h0)
    exact iff_of_true (decode_of_rsvField_ne_zero h) (by omega)

/-- Exactly the words 0 to 5 decode to a command. -/
theorem exists_decode_eq_some_iff {v : Reg32} : (∃ i, decode v = some i) ↔ v.toNat ≤ 5 := by
  rw [← Option.ne_none_iff_exists', Ne, decode_eq_none_iff]
  omega

/-- Settles O3: a reserved bit refuses the word, else OP alone decides, and the two fields make up the number. -/
theorem decoderAcceptsExactlySixWords : Obligations.DecoderAcceptsExactlySixWords := by
  refine fun v => ⟨decode_of_rsvField_ne_zero, fun hrsv => ?_, exists_decode_eq_some_iff⟩
  have hop {op : BitVec 4} (h : v.extractLsb' 0 4 = op) : decode v = decodeOp op.toNat :=
    h ▸ decode_of_rsvField_eq_zero hrsv
  exact ⟨hop, hop, hop, hop, hop, hop, fun h => (hop rfl).trans (decodeOp_eq_none_iff.2 h)⟩

end Sys2Proof
end

section
/-! The doubling of GF(2^8) on each side of its reduction (40_gf256.md R152). -/

namespace Sys2Proof.Machine

/-- The bit shifted out is 1: the shifted byte is reduced. -/
theorem xtime_of_carry {b : Byte} (h : (b.setWidth 9 <<< 1).getLsbD 8 = true) :
    xtime b = (b.setWidth 9 <<< 1).setWidth 8 ^^^ 0x1B#8 :=
  if_pos h

/-- The bit shifted out is 0: the shifted byte stands. -/
theorem xtime_of_not_carry {b : Byte} (h : (b.setWidth 9 <<< 1).getLsbD 8 = false) :
    xtime b = (b.setWidth 9 <<< 1).setWidth 8 :=
  if_neg (Bool.eq_false_iff.1 h)

/-- Settles O45: the bit shifted out selects the branch of the doubling. -/
theorem xtimeShiftsAndReduces : Obligations.XtimeShiftsAndReduces :=
  fun _ => ⟨xtime_of_carry, xtime_of_not_carry⟩

end Sys2Proof.Machine
end

section
/-! The two S-box ROMs are inverse to each other (41_sbox.md R173, R175). -/

namespace Sys2Proof.Machine

/-- The one fact read off the tables: IS-ROM takes each of the 256 entries of S-ROM back to its address. -/
theorem invSub_leftInverse_sub : Function.LeftInverse invSub sub := by
  unfold Function.LeftInverse
  decide

/-- A left inverse between sets of one finite size is a right inverse as well (R175). -/
theorem invSub_rightInverse_sub : Function.RightInverse invSub sub :=
  invSub_leftInverse_sub.rightInverse_of_card_le le_rfl

/-- Settles O48: IS-ROM undoes S-ROM, and a map with a two-sided inverse is a bijection. -/
theorem sboxIsBijective : Obligations.SboxIsBijective :=
  ⟨Function.bijective_iff_has_inverse.2 ⟨invSub, invSub_leftInverse_sub, invSub_rightInverse_sub⟩,
    invSub_leftInverse_sub⟩

end Sys2Proof.Machine
end

section
/-! The key schedule: its ROM, its word maps and its recurrence (42_key_schedule.md). -/

namespace Sys2Proof.Machine

/-- 42_key_schedule.md R190: each entry of RCON-ROM is the double of the one before. -/
theorem rcon_succ {i : Nat} (hi : i < 13) : rcon (i + 1) = xtime (rcon i) := by
  revert i
  decide

/-- 42_key_schedule.md R192. Below bit 8 the rotated register has the top byte of the old one, above it the bit 8 places
down. -/
theorem pack_rotWord (w : Word) : pack (rotWord w) = (pack w).rotateLeft 8 := by
  refine BitVec.eq_of_getLsbD_eq fun i hi => ?_
  rw [BitVec.getLsbD_rotateLeft]
  simp only [pack, rotWord, BitVec.getLsbD_append]
  by_cases hlow : i < 8
  · grind
  · grind

theorem recurrence_of_mod_eq_zero {i : Nat} (h : i % 8 = 0) (back8 back1 : Word) :
    recurrence i back8 back1 =
      wordXor back8 (xorFirst (subWord (rotWord back1)) (rcon (i / 8 - 1))) :=
  if_pos h

theorem recurrence_of_mod_eq_four {i : Nat} (h : i % 8 = 4) (back8 back1 : Word) :
    recurrence i back8 back1 = wordXor back8 (subWord back1) := by
  rw [recurrence, if_neg (by omega), if_pos h]

theorem recurrence_of_mod_other {i : Nat} (h0 : i % 8 ≠ 0) (h4 : i % 8 ≠ 4) (back8 back1 : Word) :
    recurrence i back8 back1 = wordXor back8 back1 := by
  rw [recurrence, if_neg h0, if_neg h4]

/-- Word `i` of a schedule whose words so far are held newest first. -/
def scheduleWord (ws : List Word) (i : Nat) : Word := ws.reverse.getD i Word.zero

/-- `w[i]` stands `length - 1 - i` places behind the newest word. -/
theorem scheduleWord_eq_getD {ws : List Word} {i : Nat} (hi : i < ws.length) :
    scheduleWord ws i = ws.getD (ws.length - 1 - i) Word.zero :=
  congrFun (List.getD_reverse i hi) Word.zero

theorem scheduleWord_cons_length (a : Word) (ws : List Word) : scheduleWord (a :: ws) ws.length = a := by
  rw [scheduleWord_eq_getD (by simp)]
  simp

/-- A word once in the schedule stays at its index when newer words come in front. -/
theorem scheduleWord_of_suffix {ws vs : List Word} (h : ws <:+ vs) {i : Nat} (hi : i < ws.length) :
    scheduleWord vs i = scheduleWord ws i := by
  obtain ⟨newer, rfl⟩ := h
  rw [scheduleWord, List.reverse_append, List.getD_append _ _ _ _ (by simpa using hi), scheduleWord]

/-- 42_key_schedule.md R194: every word the expander adds comes from the words 8 and 1 places before it. -/
theorem scheduleWord_extendWords {n : Nat} {ws : List Word} (hws : 8 ≤ ws.length) {i : Nat}
    (hlow : ws.length ≤ i) (hhigh : i < ws.length + n) :
    scheduleWord (extendWords n ws) i =
      recurrence i (scheduleWord (extendWords n ws) (i - 8)) (scheduleWord (extendWords n ws) (i - 1)) := by
  induction n generalizing ws with
  | zero => omega
  | succ n ih =>
    rcases hlow.eq_or_lt with rfl | hlt
    · have hadded : recurrence ws.length (ws.getD 7 Word.zero) (ws.getD 0 Word.zero) :: ws <:+
          extendWords (n + 1) ws := suffix_extendWords n _
      have hold : ws <:+ extendWords (n + 1) ws := suffix_extendWords (n + 1) ws
      have hback8 : ws.length - 1 - (ws.length - 8) = 7 := by omega
      have hback1 : ws.length - 1 - (ws.length - 1) = 0 := by omega
      rw [scheduleWord_of_suffix hadded (by simp), scheduleWord_cons_length,
        scheduleWord_of_suffix hold (by omega), scheduleWord_of_suffix hold (by omega),
        scheduleWord_eq_getD (by omega), scheduleWord_eq_getD (by omega), hback8, hback1]
    · exact ih (by simp; omega) hlt (by simp; omega)

/-- 42_key_schedule.md R194, on the 60 words of a key. -/
theorem expandWords_recurrence (key : Key) {i : Nat} (hlow : 8 ≤ i) (hhigh : i ≤ 59) :
    (expandWords key).getD i Word.zero =
      recurrence i ((expandWords key).getD (i - 8) Word.zero) ((expandWords key).getD (i - 1) Word.zero) := by
  have hlen : key.toList.reverse.length = 8 := by simp
  exact scheduleWord_extendWords hlen.ge (hlen.trans_le hlow) (by omega)

/-- 42_key_schedule.md R193, byte by byte. -/
theorem key_word_eq_bytes (key : Key) (j : Fin 8) :
    key[j] = ⟨key.byte ⟨4 * j.val, by omega⟩, key.byte ⟨4 * j.val + 1, by omega⟩,
      key.byte ⟨4 * j.val + 2, by omega⟩, key.byte ⟨4 * j.val + 3, by omega⟩⟩ :=
  Quad.ext (Key.byte_eq_get key j 0).symm (Key.byte_eq_get key j 1).symm
    (Key.byte_eq_get key j 2).symm (Key.byte_eq_get key j 3).symm

theorem expand_getElem (key : Key) (r : Fin 15) : (expand key)[r] = roundKeyOf (expandWords key) r := by
  fin_cases r <;> rfl

/-- 42_key_schedule.md R196. -/
theorem expand_column (key : Key) (r : Fin 15) (c : Fin 4) :
    ((expand key)[r]).get c = (expandWords key).getD (4 * r.val + c.val) Word.zero := by
  rw [expand_getElem, roundKeyOf_get]

/-- Settles O54: the words are those of `expandWords`, which starts with the key and continues by the recurrence. -/
theorem keyScheduleRecurrence : Obligations.KeyScheduleRecurrence := by
  refine ⟨⟨rfl, rfl, fun _ => rcon_succ, rfl⟩, fun w => ⟨rfl, rfl, pack_rotWord w⟩, fun key =>
    ⟨fun i => (expandWords key).getD i Word.zero, fun j => ?_, fun i hlow hhigh => ?_, expand_column key⟩⟩
  · exact (expandWords_getD key j.isLt).trans (key_word_eq_bytes key j)
  · have hrec := expandWords_recurrence key hlow hhigh
    exact ⟨fun h => hrec.trans (recurrence_of_mod_eq_zero h _ _),
      fun h => hrec.trans (recurrence_of_mod_eq_four h _ _),
      fun h0 h4 => hrec.trans (recurrence_of_mod_other h0 h4 _ _)⟩

end Sys2Proof.Machine
end

section
/-! Linearity of the multiplier over xor (40_gf256.md R153, R155). -/

namespace Sys2Proof.Machine

/-- Additive for the addition of GF(2^8), which is xor (40_gf256.md R151). -/
def XorLinear (f : Byte → Byte) : Prop := ∀ a b, f (a ^^^ b) = f a ^^^ f b

theorem XorLinear.map_zero {f : Byte → Byte} (hf : XorLinear f) : f 0#8 = 0#8 := by
  simpa using hf 0#8 0#8

/-- Clearing the top bit of a byte lowers the bound on its bits by one. -/
theorem getLsbD_xor_twoPow_of_top {b : Byte} {k : Nat} (hb : b.getLsbD k = true)
    (hhigh : ∀ j, k + 1 ≤ j → b.getLsbD j = false) {j : Nat} (hj : k ≤ j) :
    (b ^^^ BitVec.twoPow 8 k).getLsbD j = false := by
  rcases hj.eq_or_lt with rfl | hlt
  · have hk : k < 8 := BitVec.lt_of_getLsbD hb
    simp [hb, hk]
  · simp [hhigh j hlt, hlt.ne]

/-- A linear map is known from its values at the eight single bits. -/
theorem XorLinear.eq_of_twoPow {f g : Byte → Byte} (hf : XorLinear f) (hg : XorLinear g)
    (h : ∀ i : Fin 8, f (BitVec.twoPow 8 i) = g (BitVec.twoPow 8 i)) : f = g := by
  have below (k : Nat) : ∀ b : Byte, (∀ j, k ≤ j → b.getLsbD j = false) → f b = g b := by
    induction k with
    | zero =>
      intro b hb
      have hzero : b = 0#8 := BitVec.eq_of_getLsbD_eq fun j _ => by simp [hb j]
      rw [hzero, hf.map_zero, hg.map_zero]
    | succ k ih =>
      intro b hhigh
      cases hk : b.getLsbD k with
      | false =>
        refine ih b fun j hj => ?_
        rcases hj.eq_or_lt with rfl | hlt
        · exact hk
        · exact hhigh j hlt
      | true =>
        have hrest := ih _ fun j => getLsbD_xor_twoPow_of_top hk hhigh
        have hbit := h ⟨k, BitVec.lt_of_getLsbD hk⟩
        calc f b = f (b ^^^ BitVec.twoPow 8 k ^^^ BitVec.twoPow 8 k) := by
              rw [BitVec.xor_assoc, BitVec.xor_self, BitVec.xor_zero]
          _ = g (b ^^^ BitVec.twoPow 8 k ^^^ BitVec.twoPow 8 k) := by rw [hf, hg, hrest, hbit]
          _ = g b := by rw [BitVec.xor_assoc, BitVec.xor_self, BitVec.xor_zero]
  exact funext fun b => below 8 b fun j hj => BitVec.getLsbD_of_ge b j hj

/-- A byte added under a condition: where both conditions hold, it is added twice and cancels. -/
theorem ite_xor_bool (c d : Bool) (r : Byte) :
    (if c ^^ d then r else 0#8) = (if c then r else 0#8) ^^^ (if d then r else 0#8) := by
  cases c <;> cases d <;> simp

/-- The doubling as a shift and a conditional addition (40_gf256.md R152). -/
theorem xtime_eq_xor_ite (b : Byte) :
    xtime b = (b.setWidth 9 <<< 1).setWidth 8 ^^^ (if (b.setWidth 9 <<< 1).getLsbD 8 then 0x1B#8 else 0#8) := by
  cases h : (b.setWidth 9 <<< 1).getLsbD 8 with
  | false => simp [xtime_of_not_carry h]
  | true => simp [xtime_of_carry h]

theorem xtime_xorLinear : XorLinear xtime := by
  intro a b
  have hshift : (a ^^^ b).setWidth 9 <<< 1 = (a.setWidth 9 <<< 1) ^^^ (b.setWidth 9 <<< 1) := by
    rw [BitVec.setWidth_xor, BitVec.shiftLeft_xor_distrib]
  rw [xtime_eq_xor_ite, xtime_eq_xor_ite a, xtime_eq_xor_ite b, hshift, BitVec.getLsbD_xor,
    BitVec.setWidth_xor, ite_xor_bool]
  ac_rfl

/-- One pass of the loop as a conditional addition and a doubling (40_gf256.md R153). -/
theorem gmulStep_eq_xor_ite (b p a : Byte) (i : Nat) :
    gmulStep b (p, a) i = (p ^^^ (if b.getLsbD i then a else 0#8), xtime a) := by
  cases h : b.getLsbD i <;> simp [gmulStep, h]

/-- One pass of the loop is linear in the pair of running values. -/
theorem gmulStep_xor_pair (b p a q c : Byte) (i : Nat) :
    gmulStep b (p ^^^ q, a ^^^ c) i =
      ((gmulStep b (p, a) i).1 ^^^ (gmulStep b (q, c) i).1, xtime a ^^^ xtime c) := by
  have hadd : (if b.getLsbD i then a ^^^ c else 0#8) =
      (if b.getLsbD i then a else 0#8) ^^^ (if b.getLsbD i then c else 0#8) := by
    split <;> simp
  simp only [gmulStep_eq_xor_ite, hadd, xtime_xorLinear a c, Prod.mk.injEq, and_true]
  ac_rfl

/-- One pass of the loop is linear in the factor whose bits it reads. -/
theorem gmulStep_xor_factor (b d p q a : Byte) (i : Nat) :
    gmulStep (b ^^^ d) (p ^^^ q, a) i =
      ((gmulStep b (p, a) i).1 ^^^ (gmulStep d (q, a) i).1, xtime a) := by
  simp only [gmulStep_eq_xor_ite, BitVec.getLsbD_xor, ite_xor_bool, Prod.mk.injEq, and_true]
  ac_rfl

theorem foldl_gmulStep_xor_pair (b : Byte) (bits : List Nat) (p a q c : Byte) :
    (bits.foldl (gmulStep b) (p ^^^ q, a ^^^ c)).1 =
      (bits.foldl (gmulStep b) (p, a)).1 ^^^ (bits.foldl (gmulStep b) (q, c)).1 := by
  induction bits generalizing p a q c with
  | nil => rfl
  | cons i bits ih => rw [List.foldl_cons, gmulStep_xor_pair, ih]; rfl

theorem foldl_gmulStep_xor_factor (b d : Byte) (bits : List Nat) (p q a : Byte) :
    (bits.foldl (gmulStep (b ^^^ d)) (p ^^^ q, a)).1 =
      (bits.foldl (gmulStep b) (p, a)).1 ^^^ (bits.foldl (gmulStep d) (q, a)).1 := by
  induction bits generalizing p q a with
  | nil => rfl
  | cons i bits ih => rw [List.foldl_cons, gmulStep_xor_factor, ih]; rfl

theorem gmul_xorLinear_left (b : Byte) : XorLinear (gmul · b) := fun a c =>
  foldl_gmulStep_xor_pair b _ 0x00#8 a 0x00#8 c

theorem gmul_xorLinear_right (a : Byte) : XorLinear (gmul a) := fun b d =>
  foldl_gmulStep_xor_factor b d _ 0x00#8 0x00#8 a

/-- The 64 products of two single bits. -/
theorem gmul_twoPow_comm (i j : Fin 8) :
    gmul (BitVec.twoPow 8 i) (BitVec.twoPow 8 j) = gmul (BitVec.twoPow 8 j) (BitVec.twoPow 8 i) := by
  revert i j
  decide

/-- 40_gf256.md R155. The product is linear in each factor, so the single bits decide, first in the one and then in the
other. -/
theorem gmul_comm (a b : Byte) : gmul a b = gmul b a := by
  have hbit (i : Fin 8) : gmul (BitVec.twoPow 8 i) = (gmul · (BitVec.twoPow 8 i)) :=
    (gmul_xorLinear_right _).eq_of_twoPow (gmul_xorLinear_left _) (gmul_twoPow_comm i)
  have hall : (gmul · b) = gmul b :=
    (gmul_xorLinear_left b).eq_of_twoPow (gmul_xorLinear_right b) fun i => congrFun (hbit i) b
  exact congrFun hall a

end Sys2Proof.Machine
end

section
/-! The round transforms, byte by byte, by grid position and column by column (43_round_transforms.md). -/

namespace Sys2Proof

@[simp] theorem Quad.get_map {α β : Type} (f : α → β) (q : Quad α) (i : Fin 4) :
    (q.map f).get i = f (q.get i) := by
  fin_cases i <;> rfl

@[simp] theorem Quad.get_zipWith {α β γ : Type} (f : α → β → γ) (p : Quad α) (q : Quad β) (i : Fin 4) :
    (Quad.zipWith f p q).get i = f (p.get i) (q.get i) := by
  fin_cases i <;> rfl

end Sys2Proof

namespace Sys2Proof.Machine

/-- A row of a matrix times a column, the row's entries written first. -/
theorem dotColumn_eq (m : Quad Byte) (a : Word) :
    dotColumn m a = gmul m.q0 a.q0 ^^^ gmul m.q1 a.q1 ^^^ gmul m.q2 a.q2 ^^^ gmul m.q3 a.q3 := by
  simp only [dotColumn, gmul_comm m.q0, gmul_comm m.q1, gmul_comm m.q2, gmul_comm m.q3]

theorem columnMix_get (s : Block) (c : Fin 4) : (columnMix s).get c = mulColumn mixMatrix (s.get c) :=
  Quad.get_map ..

theorem invColumnMix_get (s : Block) (c : Fin 4) :
    (invColumnMix s).get c = mulColumn invMixMatrix (s.get c) :=
  Quad.get_map ..

/-- Settles O52: each column is a matrix times that column, and the multiplier commutes. -/
theorem columnMixMultipliesColumns : Obligations.ColumnMixMultipliesColumns := by
  intro s c
  constructor
  · rw [columnMix_get]
    simp only [mulColumn, mixMatrix, Quad.map, dotColumn_eq]
  · rw [invColumnMix_get]
    simp only [mulColumn, invMixMatrix, Quad.map, dotColumn_eq]

/-- Settles O50: each of the three works on the columns one by one, and on the bytes of a column one by one. -/
theorem bytewiseTransforms : Obligations.BytewiseTransforms := by
  intro s k i
  simp only [byteSub, invByteSub, roundKeyAdd, blockXor, wordXor, Block.byte, Quad.get_map,
    Quad.get_zipWith, and_self]

/-- 43_round_transforms.md R213. -/
theorem rowShift_get (s : Block) (r c : Fin 4) : ((rowShift s).get c).get r = (s.get (c + r)).get r := by
  fin_cases r <;> fin_cases c <;> rfl

/-- 43_round_transforms.md R214. -/
theorem invRowShift_get (s : Block) (r c : Fin 4) :
    ((invRowShift s).get c).get r = (s.get (c - r)).get r := by
  fin_cases r <;> fin_cases c <;> rfl

/-- Settles O51: the rotations by grid position, and the place of each of the 16 bytes in P and Q. -/
theorem rowShiftRotatesRows : Obligations.RowShiftRotatesRows := by
  refine fun s => ⟨rowShift_get s, invRowShift_get s, fun i => ?_, fun i => ?_⟩
  · fin_cases i <;> rfl
  · fin_cases i <;> rfl

end Sys2Proof.Machine
end

section
/-! The rounds of the cipher as sequences of states (44_block_cipher.md). -/

namespace Sys2Proof.Machine

/-- One more element of a list is one more pass of the loop over its beginning. -/
theorem foldl_take_succ {α β : Type} (f : β → α → β) (b : β) {l : List α} {n : Nat} {a : α}
    (h : l[n]? = some a) : (l.take (n + 1)).foldl f b = f ((l.take n).foldl f b) a := by
  rw [List.take_add_one, h, Option.toList_some, List.foldl_concat]

theorem innerRounds_getElem? :
    ∀ r : Fin 15, 1 ≤ r.val → r.val ≤ 13 → innerRounds[r.val - 1]? = some r := by
  decide

theorem innerRounds_reverse_getElem? :
    ∀ r : Fin 15, 1 ≤ r.val → r.val ≤ 13 → innerRounds.reverse[13 - r.val]? = some r := by
  decide

/-- Encrypt's state after the rounds 1 to `r` (R240). -/
def encryptState (rk : Sched) (p : Block) (r : Nat) : Block :=
  (innerRounds.take r).foldl (encryptRound rk) (roundKeyAdd p rk[0])

/-- Decrypt's state after the first pass and the passes 13 down to `r` (R241). -/
def decryptState (rk : Sched) (c : Block) (r : Nat) : Block :=
  (innerRounds.reverse.take (14 - r)).foldl (decryptRound rk)
    (invByteSub (invRowShift (roundKeyAdd c rk[14])))

section
variable (rk : Sched) (b : Block) {r : Fin 15} (hlow : 1 ≤ r.val) (hhigh : r.val ≤ 13)
include hlow hhigh

theorem encryptState_round : encryptState rk b r = encryptRound rk (encryptState rk b (r.val - 1)) r := by
  have hpass := foldl_take_succ (encryptRound rk) (roundKeyAdd b rk[0]) (innerRounds_getElem? r hlow hhigh)
  rwa [Nat.sub_add_cancel hlow] at hpass

theorem decryptState_round : decryptState rk b r = decryptRound rk (decryptState rk b (r.val + 1)) r := by
  have hpass := foldl_take_succ (decryptRound rk) (invByteSub (invRowShift (roundKeyAdd b rk[14])))
    (innerRounds_reverse_getElem? r hlow hhigh)
  have hcount : 13 - r.val + 1 = 14 - r.val := by omega
  have hbefore : 13 - r.val = 14 - (r.val + 1) := by omega
  rwa [hcount, hbefore] at hpass

end

theorem encrypt_eq_finalRound (rk : Sched) (p : Block) :
    encrypt rk p = roundKeyAdd (rowShift (byteSub (encryptState rk p 13))) rk[14] := rfl

theorem decrypt_eq_finalKeyAdd (rk : Sched) (c : Block) :
    decrypt rk c = roundKeyAdd (decryptState rk c 1) rk[0] := rfl

/-- Settles O55: the states are those of the two loops, cut after each pass. -/
theorem fourteenRounds : Obligations.FourteenRounds := fun rk b =>
  ⟨⟨encryptState rk b, rfl, fun _ => encryptState_round rk b, encrypt_eq_finalRound rk b⟩,
    ⟨decryptState rk b, rfl, fun _ => decryptState_round rk b, decrypt_eq_finalKeyAdd rk b⟩⟩

end Sys2Proof.Machine
end

section
/-! The multiplier is associative, so two matrices applied to a column are one (40_gf256.md R155, 43_round_transforms.md
R215, R216). -/

namespace Sys2Proof.Machine

theorem XorLinear.comp {f g : Byte → Byte} (hf : XorLinear f) (hg : XorLinear g) : XorLinear (f ∘ g) :=
  fun a b => (congrArg f (hg a b)).trans (hf _ _)

theorem gmul_xor_left (a b c : Byte) : gmul (a ^^^ b) c = gmul a c ^^^ gmul b c := gmul_xorLinear_left c a b

theorem gmul_xor_right (a b c : Byte) : gmul a (b ^^^ c) = gmul a b ^^^ gmul a c := gmul_xorLinear_right a b c

theorem gmul_zero (a : Byte) : gmul a 0x00#8 = 0x00#8 := (gmul_xorLinear_right a).map_zero

theorem gmul_one (a : Byte) : gmul a 0x01#8 = a :=
  have hbit : ∀ i : Fin 8, gmul (BitVec.twoPow 8 i) 0x01#8 = BitVec.twoPow 8 i := by decide
  congrFun ((gmul_xorLinear_left 0x01#8).eq_of_twoPow (g := id) (fun _ _ => rfl) hbit) a

/-- The 512 triples of single bits. -/
theorem gmul_twoPow_assoc : ∀ i j k : Fin 8,
    gmul (gmul (BitVec.twoPow 8 i) (BitVec.twoPow 8 j)) (BitVec.twoPow 8 k) =
      gmul (BitVec.twoPow 8 i) (gmul (BitVec.twoPow 8 j) (BitVec.twoPow 8 k)) := by
  decide

/-- 40_gf256.md R155. Both sides are linear in each factor, so the single bits decide, one factor after another. -/
theorem gmul_assoc (a b c : Byte) : gmul (gmul a b) c = gmul a (gmul b c) := by
  have hthird (i j : Fin 8) : gmul (gmul (BitVec.twoPow 8 i) (BitVec.twoPow 8 j)) =
      gmul (BitVec.twoPow 8 i) ∘ gmul (BitVec.twoPow 8 j) :=
    (gmul_xorLinear_right _).eq_of_twoPow ((gmul_xorLinear_right _).comp (gmul_xorLinear_right _))
      (gmul_twoPow_assoc i j)
  have hsecond (i : Fin 8) : (gmul · c) ∘ gmul (BitVec.twoPow 8 i) =
      gmul (BitVec.twoPow 8 i) ∘ (gmul · c) :=
    ((gmul_xorLinear_left c).comp (gmul_xorLinear_right _)).eq_of_twoPow
      ((gmul_xorLinear_right _).comp (gmul_xorLinear_left c)) fun j => congrFun (hthird i j) c
  have hfirst : (gmul · c) ∘ (gmul · b) = (gmul · (gmul b c)) :=
    ((gmul_xorLinear_left c).comp (gmul_xorLinear_left b)).eq_of_twoPow (gmul_xorLinear_left _)
      fun i => congrFun (hsecond i) b
  exact congrFun hfirst a

/-- A row times a matrix: the row times each of the four columns. -/
def rowTimes (row : Quad Byte) (m : Quad (Quad Byte)) : Quad Byte :=
  ⟨dotColumn row (m.map Quad.q0), dotColumn row (m.map Quad.q1), dotColumn row (m.map Quad.q2),
    dotColumn row (m.map Quad.q3)⟩

/-- A row times a column that a matrix has made is one row times the first column. -/
theorem dotColumn_mulColumn (row : Quad Byte) (m : Quad (Quad Byte)) (a : Word) :
    dotColumn row (mulColumn m a) = dotColumn (rowTimes row m) a := by
  simp only [dotColumn, mulColumn, rowTimes, Quad.map, gmul_xor_left, gmul_xor_right, gmul_assoc]
  ac_rfl

theorem mulColumn_mulColumn (n m : Quad (Quad Byte)) (a : Word) :
    mulColumn n (mulColumn m a) = mulColumn (n.map (rowTimes · m)) a := by
  simp only [mulColumn, Quad.map, ← dotColumn_mulColumn]

/-- The identity matrix. -/
def unitMatrix : Quad (Quad Byte) := ⟨⟨1, 0, 0, 0⟩, ⟨0, 1, 0, 0⟩, ⟨0, 0, 1, 0⟩, ⟨0, 0, 0, 1⟩⟩

theorem mulColumn_unitMatrix (a : Word) : mulColumn unitMatrix a = a := by
  simp [mulColumn, unitMatrix, Quad.map, dotColumn, gmul_one, gmul_zero]

theorem invMixMatrix_times_mixMatrix : invMixMatrix.map (rowTimes · mixMatrix) = unitMatrix := by
  decide

theorem mulColumn_mixMatrix_leftInverse :
    Function.LeftInverse (mulColumn invMixMatrix) (mulColumn mixMatrix) := fun a => by
  rw [mulColumn_mulColumn, invMixMatrix_times_mixMatrix, mulColumn_unitMatrix]

end Sys2Proof.Machine
end

section
/-! Decrypt undoes Encrypt, round by round (43_round_transforms.md, 44_block_cipher.md section 3). -/

namespace Sys2Proof

theorem Quad.map_leftInverse {α β : Type} {f : α → β} {g : β → α} (h : Function.LeftInverse g f) :
    Function.LeftInverse (Quad.map g) (Quad.map f) := fun q =>
  Quad.ext_get fun i => by rw [Quad.get_map, Quad.get_map, h]

end Sys2Proof

namespace Sys2Proof.Machine

theorem invByteSub_byteSub : Function.LeftInverse invByteSub byteSub :=
  Quad.map_leftInverse (Quad.map_leftInverse invSub_leftInverse_sub)

theorem invRowShift_rowShift : Function.LeftInverse invRowShift rowShift := fun _ => rfl

theorem invColumnMix_columnMix : Function.LeftInverse invColumnMix columnMix :=
  Quad.map_leftInverse mulColumn_mixMatrix_leftInverse

/-- 43_round_transforms.md R217: adding the same round key twice changes nothing. -/
theorem roundKeyAdd_roundKeyAdd (s k : Block) : roundKeyAdd (roundKeyAdd s k) k = s :=
  Quad.ext_get fun c => Quad.ext_get fun r => by
    simp only [roundKeyAdd, blockXor, wordXor, Quad.get_zipWith, BitVec.xor_assoc, BitVec.xor_self,
      BitVec.xor_zero]

theorem decryptRound_encryptRound (rk : Sched) (s : Block) (r : Fin 15) :
    decryptRound rk (encryptRound rk s r) r = s := by
  rw [decryptRound, encryptRound, roundKeyAdd_roundKeyAdd, invColumnMix_columnMix, invRowShift_rowShift,
    invByteSub_byteSub]

/-- Passes that each undo one pass of a loop, run backwards, undo the loop. -/
theorem foldl_reverse_foldl {α β : Type} {f g : β → α → β} (h : ∀ b a, g (f b a) a = b) (l : List α) (b : β) :
    l.reverse.foldl g (l.foldl f b) = b := by
  induction l generalizing b with
  | nil => rfl
  | cons a l ih => rw [List.reverse_cons, List.foldl_concat, List.foldl_cons, ih, h]

/-- 44_block_cipher.md section 3, for every schedule. -/
theorem decrypt_encrypt (rk : Sched) (p : Block) : decrypt rk (encrypt rk p) = p := by
  rw [decrypt, encrypt, roundKeyAdd_roundKeyAdd, invRowShift_rowShift, invByteSub_byteSub,
    foldl_reverse_foldl (decryptRound_encryptRound rk), roundKeyAdd_roundKeyAdd]

end Sys2Proof.Machine
end

section
/-! A command write by its checks (45_commands.md R260) and its issue (R261). -/

namespace Sys2Proof.Machine

/-- The commands of R260 that need a valid key. -/
def needsKey : Instr → Bool
  | .ecbEnc | .ecbDec | .ctr => true
  | .nop | .keyexp | .zeroize => false

/-- The command of R260 that needs an unexhausted counter. -/
def needsCounter : Instr → Bool
  | .ctr => true
  | .nop | .keyexp | .ecbEnc | .ecbDec | .zeroize => false

/-- What a command write does when every check of R260 passes. -/
def acceptedEffect : Instr → State → State
  | .nop => id
  | .keyexp => issue .keyexp
  | .ecbEnc => issue .ecbEnc
  | .ecbDec => issue .ecbDec
  | .ctr => issue .ctr
  | .zeroize => issue .zeroize

theorem exec_eq_acceptOr (i : Instr) (s : State) :
    exec i s = .next (acceptOr (needsKey i) (needsCounter i) (acceptedEffect i) s) := by
  cases i <;> rfl

section
variable {i : Instr} {s : State}

theorem exec_of_inflight (hs : s.inflight ≠ none) : exec i s = .next (raiseCmdError .busy s) := by
  rw [exec_eq_acceptOr, acceptOr_busy (busy_eq_true.2 (Option.ne_none_iff_exists'.1 hs))]

theorem exec_of_noKey (hi : needsKey i = true) (hs : s.inflight = none) (hk : s.keyValid = false) :
    exec i s = .next (raiseCmdError .noKey s) := by
  rw [exec_eq_acceptOr, hi, acceptOr_noKey (busy_eq_false.2 hs) hk]

theorem exec_ctr_of_exhausted (hs : s.inflight = none) (hk : s.keyValid = true) (hc : s.ctrExh = true) :
    exec .ctr s = .next (raiseCmdError .ctrOverflow s) :=
  congrArg _ (acceptOr_ctrOverflow (busy_eq_false.2 hs) hk hc)

theorem exec_of_checks (hs : s.inflight = none) (hk : needsKey i = true → s.keyValid = true)
    (hc : needsCounter i = true → s.ctrExh = false) : exec i s = .next (acceptedEffect i s) := by
  rw [exec_eq_acceptOr, acceptOr_go (busy_eq_false.2 hs) hk hc]

/-- The checks of an idle machine, in the order of R260. -/
theorem exec_of_idle (hs : s.inflight = none) :
    exec i s = .next (
      if needsKey i = true ∧ s.keyValid = false then raiseCmdError .noKey s
      else if needsCounter i = true ∧ s.ctrExh = true then raiseCmdError .ctrOverflow s
      else acceptedEffect i s) := by
  rw [exec_eq_acceptOr]
  rcases acceptOr_cases (needsKey i) (needsCounter i) (acceptedEffect i) s with
    ⟨hbusy, -⟩ | ⟨-, hi, hk, e⟩ | ⟨-, hk, hi, hc, e⟩ | ⟨-, hk, hc, e⟩
  · simp [busy_eq_false.2 hs] at hbusy
  · rw [e, if_pos ⟨hi, hk⟩]
  · rw [e, if_neg fun h => Bool.false_ne_true (h.2.symm.trans (hk h.1)), if_pos ⟨hi, hc⟩]
  · rw [e, if_neg fun h => Bool.false_ne_true (h.2.symm.trans (hk h.1)),
      if_neg fun h => Bool.false_ne_true ((hc h.1).symm.trans h.2)]

end

/-- Every CMD write is rejected while a command is in flight, whether or not its word decodes. -/
theorem cmdWrite_of_inflight {s : State} (hs : s.inflight ≠ none) (v : Reg32) :
    cmdWrite v s = .next (raiseCmdError .busy s) := by
  have hbusy : s.busy = true := busy_eq_true.2 (Option.ne_none_iff_exists'.1 hs)
  unfold cmdWrite
  split
  · exact exec_of_inflight hs
  · rw [if_pos hbusy]

theorem cmdWrite_of_illegal {s : State} (hs : s.inflight = none) {v : Reg32} (hv : decode v = none) :
    cmdWrite v s = .next (raiseCmdError .illegalCmd s) := by
  simp [cmdWrite, hv, busy_eq_false.2 hs]

theorem cmdWrite_of_decode {v : Reg32} {i : Instr} (hv : decode v = some i) (s : State) :
    cmdWrite v s = exec i s := by
  simp [cmdWrite, hv]

theorem needsKey_iff {i : Instr} : needsKey i = true ↔ i = .ecbEnc ∨ i = .ecbDec ∨ i = .ctr := by
  cases i <;> decide

theorem needsCounter_iff {i : Instr} : needsCounter i = true ↔ i = .ctr := by
  cases i <;> decide

/-- Settles O5: BUSY before the word is decoded, then the checks of the decoded command in their order. -/
theorem cmdWriteChecksInOrder : Obligations.CmdWriteChecksInOrder := by
  refine fun s v => ⟨?_, fun _ => rfl⟩
  rw [writeReg]
  by_cases hidle : s.inflight = none
  · rw [if_neg (not_not_intro hidle)]
    cases hv : decode v with
    | none => exact cmdWrite_of_illegal hidle hv
    | some i =>
      rw [cmdWrite_of_decode hv, exec_of_idle hidle]
      simp only [needsKey_iff, needsCounter_iff]
      cases i <;> rfl
  · rw [if_pos hidle, cmdWrite_of_inflight hidle]

/-- The issue of the commands that keep KEY_VALID. -/
theorem issue_of_keepsKeyValid {op : InFlightOp} (h : clearsKeyValid op = false) (s : State) :
    issue op s = { s with
      inflight := some { op := op, key := s.key, rk := s.rk, din := s.din, ctr := s.ctr }
      done := false } := by
  simp [issue, h]

/-- The issue of the commands that clear KEY_VALID. -/
theorem issue_of_clearsKeyValid {op : InFlightOp} (h : clearsKeyValid op = true) (s : State) :
    issue op s = { s with
      inflight := some { op := op, key := s.key, rk := s.rk, din := s.din, ctr := s.ctr }
      done := false
      keyValid := false } := by
  simp [issue, h]

theorem clearsKeyValid_iff {op : InFlightOp} : clearsKeyValid op = true ↔ op = .keyexp ∨ op = .zeroize := by
  cases op <;> decide

/-- Settles O6, by whether the command clears KEY_VALID. -/
theorem issueTakesSnapshot : Obligations.IssueTakesSnapshot := by
  refine fun op s => ⟨?_, ?_⟩
  · split
    · exact issue_of_clearsKeyValid (clearsKeyValid_iff.2 ‹_›) s
    · have hop : clearsKeyValid op = false := Bool.eq_false_iff.2 fun h => ‹¬ _› (clearsKeyValid_iff.1 h)
      exact issue_of_keepsKeyValid hop s
  · rw [statusWord_busy, State.busy, issue_inflight, Option.isSome_some]

/-- Settles O8: NOP has no check but BUSY, and no effect. -/
theorem nopHasNoEffect : Obligations.NopHasNoEffect :=
  ⟨by decide, fun _ => ⟨fun hidle => exec_of_checks hidle nofun nofun, exec_of_inflight⟩⟩

end Sys2Proof.Machine
end

section
/-! Each command from its issue to its completion (45_commands.md R262, R270 to R291). -/

namespace Sys2Proof

@[simp] theorem Sched.byte_zero (r : Fin 15) (i : Fin 16) : Sched.zero[r].byte i = 0x00 := by
  simp [Sched.zero]

end Sys2Proof

namespace Sys2Proof.Machine

/-- The operands an issue records (10_state.md R51). -/
def snapshot (op : InFlightOp) (s : State) : InFlight :=
  { op := op, key := s.key, rk := s.rk, din := s.din, ctr := s.ctr }

/-- The completion writes every field the issue has written, but for a KEY_VALID the issue has kept. So it ends as if
it had found the state from before the issue. -/
theorem complete_issue (op : InFlightOp) (s : State) :
    complete (issue op s) = finish (completeOp (snapshot op s) s) := by
  rw [complete_inflight (issue_inflight s op)]
  cases op with
  | keyexp | zeroize => rfl
  | ecbEnc | ecbDec | ctr => rw [issue_of_keepsKeyValid rfl]; rfl

/-- The sequencer's turn right after an issue. -/
theorem step_sequencer_issue (op : InFlightOp) (s : State) (ts : List Turn) :
    step { issue op s with turns := .sequencer :: ts } =
      .next (finish (completeOp (snapshot op s) { s with turns := ts })) :=
  (step_sequencer rfl).trans (congrArg _ (complete_issue op { s with turns := ts }))

/-- Settles O9: the acceptance, the issue, and the sequencer's turn after it. -/
theorem keyexpFillsRoundKeyStore : Obligations.KeyexpFillsRoundKeyStore := by
  refine ⟨by decide, fun s => ⟨exec_of_inflight, fun hidle => ?_⟩⟩
  exact ⟨issue .keyexp s, exec_of_checks hidle nofun nofun, issue_of_clearsKeyValid rfl s,
    step_sequencer_issue .keyexp s⟩

/-- Settles O10: the acceptance, the issue, and the sequencer's turn after it. -/
theorem ecbEncEncryptsDin : Obligations.EcbEncEncryptsDin := by
  refine ⟨by decide, fun s => ⟨exec_of_inflight, exec_of_noKey rfl, fun hidle hk => ?_⟩⟩
  exact ⟨issue .ecbEnc s, exec_of_checks hidle (fun _ => hk) nofun, issue_of_keepsKeyValid rfl s,
    step_sequencer_issue .ecbEnc s⟩

/-- Settles O11: as for ECB_ENC, and Decrypt undoes Encrypt under the recorded round keys. -/
theorem ecbDecDecryptsDin : Obligations.EcbDecDecryptsDin := by
  refine ⟨by decide, fun s => ⟨exec_of_inflight, exec_of_noKey rfl, fun hidle hk => ?_⟩⟩
  refine ⟨issue .ecbDec s, exec_of_checks hidle (fun _ => hk) nofun, issue_of_keepsKeyValid rfl s,
    step_sequencer_issue .ecbDec s, fun p hp => ?_⟩
  calc (complete (issue .ecbDec s)).dout
    _ = decrypt s.rk s.din := congrArg State.dout (complete_issue .ecbDec s)
    _ = p := by rw [hp, decrypt_encrypt]

theorem counterExhausted_iff {ctr : Block} :
    counterExhausted ctr = true ↔ (counterField ctr).toNat = 2 ^ 64 - 1 := by
  rw [counterExhausted, beq_iff_eq, ← BitVec.toNat_inj, BitVec.toNat_allOnes]

theorem completeCtr_of_exhausted {f : InFlight} (h : (counterField f.ctr).toNat = 2 ^ 64 - 1) (s : State) :
    (completeCtr f s).ctrExh = true ∧ (completeCtr f s).ctr = s.ctr := by
  simp [counterExhausted_iff.2 h]

/-- 45_commands.md R281: below its last value the counter field counts by one, and the IV bytes stay. -/
theorem completeCtr_of_not_exhausted {f : InFlight} (h : (counterField f.ctr).toNat ≠ 2 ^ 64 - 1) (s : State) :
    (completeCtr f s).ctrExh = s.ctrExh ∧
      (counterField (completeCtr f s).ctr).toNat = (counterField f.ctr).toNat + 1 ∧
      (completeCtr f s).ctr.q0 = s.ctr.q0 ∧ (completeCtr f s).ctr.q1 = s.ctr.q1 := by
  have hnot : counterExhausted f.ctr = false := Bool.eq_false_iff.2 (mt counterExhausted_iff.1 h)
  have hctr : (completeCtr f s).ctr = withCounter s.ctr (counterField f.ctr + 1) := by simp [hnot]
  refine ⟨by simp [hnot], ?_, by rw [hctr]; rfl, by rw [hctr]; rfl⟩
  have hlt := (counterField f.ctr).isLt
  rw [hctr, counterField_withCounter, BitVec.toNat_add]
  exact Nat.mod_eq_of_lt (by simp; omega)

theorem blockXor_byte (a b : Block) (i : Fin 16) : (blockXor a b).byte i = a.byte i ^^^ b.byte i :=
  (bytewiseTransforms a b i).2.2

/-- Settles O12: the acceptance and the issue as for ECB_ENC, then the completion on each side of the counter's last
value. -/
theorem ctrEncryptsAndCounts : Obligations.CtrEncryptsAndCounts := by
  refine ⟨by decide, fun s => ⟨exec_of_inflight, exec_of_noKey rfl, exec_ctr_of_exhausted,
    fun hidle hk hc => ?_⟩⟩
  refine ⟨issue .ctr s, exec_of_checks hidle (fun _ => hk) (fun _ => hc), issue_of_keepsKeyValid rfl s,
    fun ts => ?_⟩
  refine ⟨finish (completeCtr (snapshot .ctr s) { s with turns := ts }), step_sequencer_issue .ctr s ts, rfl,
    blockXor_byte s.din (encrypt s.rk s.ctr), fun hlast => ?_, fun hroom => ?_⟩
  · exact completeCtr_of_exhausted (f := snapshot .ctr s) hlast { s with turns := ts }
  · obtain ⟨hexh, hcount⟩ :=
      completeCtr_of_not_exhausted (f := snapshot .ctr s) hroom { s with turns := ts }
    exact ⟨hexh.trans hc, hcount⟩

/-- Only DONE is left in STATUS after a ZEROIZE without an error on record (45_commands.md R291). -/
theorem statusWord_zeroized {s : State} (herr : s.err = false) (hcode : s.errcode = 0) (f : InFlight) :
    statusWord (finish (completeZeroize f s)) = 0x00000002#32 := by
  simp [statusWord, State.busy, herr, hcode]

/-- Settles O13: the acceptance, the issue, and the sequencer's turn after it. -/
theorem zeroizeErasesSecrets : Obligations.ZeroizeErasesSecrets := by
  refine ⟨by decide, fun s => ⟨exec_of_inflight, fun hidle => ?_⟩⟩
  refine ⟨issue .zeroize s, exec_of_checks hidle nofun nofun, issue_of_clearsKeyValid rfl s, fun ts => ?_⟩
  exact ⟨finish (completeZeroize (snapshot .zeroize s) { s with turns := ts }),
    step_sequencer_issue .zeroize s ts, rfl, Key.byte_zero, Sched.byte_zero, Block.byte_zero,
    Block.byte_zero, Block.byte_zero,
    fun herr hcode => statusWord_zeroized (s := { s with turns := ts }) herr hcode _⟩

end Sys2Proof.Machine
end

section
/-! A command word as the number of its command (30_encoding.md R123). -/

namespace Sys2Proof

theorem decodeOp_eq_some {op : Nat} {i : Instr} (h : decodeOp op = some i) : op = (encode i).toNat := by
  unfold decodeOp at h
  split at h <;> cases h <;> rfl

/-- A word that decodes is the word of its command (R122, R123). -/
theorem toNat_of_decode {v : Reg32} {i : Instr} (h : decode v = some i) : v.toNat = (encode i).toNat := by
  have hrsv : rsvField v = 0 := by
    by_contra hne
    simp [decode_of_rsvField_ne_zero hne] at h
  rw [decode_of_rsvField_eq_zero hrsv] at h
  rw [toNat_eq_rsvField_opField, hrsv, ← decodeOp_eq_some h]
  simp

end Sys2Proof

namespace Sys2Proof.Machine

theorem needsKey_iff_toNat {v : Reg32} {i : Instr} (hv : decode v = some i) :
    needsKey i = true ↔ 2 ≤ v.toNat ∧ v.toNat ≤ 4 := by
  rw [toNat_of_decode hv]
  cases i <;> decide

theorem needsCounter_iff_toNat {v : Reg32} {i : Instr} (hv : decode v = some i) :
    needsCounter i = true ↔ v.toNat = 4 := by
  rw [toNat_of_decode hv]
  cases i <;> decide

end Sys2Proof.Machine
end

section
/-! The command errors: how one is recorded, and the accesses that raise one (60_exceptions.md R300 to R303). -/

namespace Sys2Proof.Machine

theorem raiseCmdError_of_clear {s : State} (h : s.err = false) (c : CmdError) :
    raiseCmdError c s = { s with err := true, errcode := c.code } := by
  simp [raiseCmdError, h]

theorem raiseCmdError_of_err {s : State} (h : s.err = true) (c : CmdError) : raiseCmdError c s = s := by
  rw [raiseCmdError, if_pos h, ← h]

/-- Settles O7, by whether an error is already on record. -/
theorem firstErrorIsKept : Obligations.FirstErrorIsKept := by
  refine ⟨fun c s => ?_, rfl, rfl, rfl, rfl⟩
  split
  · exact raiseCmdError_of_clear ‹_› c
  · exact raiseCmdError_of_err (Bool.eq_true_of_not_eq_false ‹_›) c

@[simp] theorem acceptedEffect_err (i : Instr) (s : State) : (acceptedEffect i s).err = s.err := by
  cases i <;> rfl

section
variable {s t : State} {v : Reg32}

/-- The words 2 to 4 are the commands that need a key. -/
theorem cmdWrite_of_noKey (hidle : s.inflight = none) (hlow : 2 ≤ v.toNat) (hhigh : v.toNat ≤ 4)
    (hk : s.keyValid = false) : cmdWrite v s = .next (raiseCmdError .noKey s) := by
  obtain ⟨i, hv⟩ := exists_decode_eq_some_iff.2 (Nat.le_succ_of_le hhigh)
  rw [cmdWrite_of_decode hv, exec_of_noKey ((needsKey_iff_toNat hv).2 ⟨hlow, hhigh⟩) hidle hk]

/-- The word 4 is CTR, the command that needs an unexhausted counter. -/
theorem cmdWrite_of_ctrOverflow (hidle : s.inflight = none) (hctr : v.toNat = 4) (hk : s.keyValid = true)
    (hc : s.ctrExh = true) : cmdWrite v s = .next (raiseCmdError .ctrOverflow s) := by
  obtain ⟨i, hv⟩ := exists_decode_eq_some_iff.2 (show v.toNat ≤ 5 by omega)
  have hi : i = .ctr := needsCounter_iff.1 ((needsCounter_iff_toNat hv).2 hctr)
  rw [cmdWrite_of_decode hv, hi, exec_ctr_of_exhausted hidle hk hc]

/-- An idle CMD write that sets ERR has failed one of the three checks that follow BUSY (45_commands.md R260). -/
theorem cmdWrite_err_rise (hidle : s.inflight = none) (h : cmdWrite v s = .next t) (hs : s.err = false)
    (ht : t.err = true) :
    5 < v.toNat ∨ (2 ≤ v.toNat ∧ v.toNat ≤ 4 ∧ s.keyValid = false) ∨
      (v.toNat = 4 ∧ s.keyValid = true ∧ s.ctrExh = true) := by
  cases hv : decode v with
  | none => exact .inl (decode_eq_none_iff.1 hv)
  | some i =>
    rw [cmdWrite_of_decode hv, exec_eq_acceptOr] at h
    cases h
    rcases acceptOr_cases (needsKey i) (needsCounter i) (acceptedEffect i) s with
      ⟨hbusy, -⟩ | ⟨-, hi, hk, -⟩ | ⟨-, hk, hi, hc, -⟩ | ⟨-, -, -, e⟩
    · simp [busy_eq_false.2 hidle] at hbusy
    · obtain ⟨hlow, hhigh⟩ := (needsKey_iff_toNat hv).1 hi
      exact .inr (.inl ⟨hlow, hhigh, hk⟩)
    · have hctr : i = .ctr := needsCounter_iff.1 hi
      exact .inr (.inr ⟨(needsCounter_iff_toNat hv).1 hi, hk (needsKey_iff.2 (.inr (.inr hctr))), hc⟩)
    · rw [e, acceptedEffect_err, hs] at ht
      cases ht

/-- While idle, no write but one to CMD sets ERR. -/
theorem writeReg_err_rise {r : Reg} (hidle : s.inflight = none) (h : writeReg r v s = .next t)
    (hs : s.err = false) (ht : t.err = true) : r = .cmd := by
  rcases writeReg_cases h with ⟨-, rfl⟩ | ⟨-, rfl⟩ | ⟨hr, -⟩ | ⟨j, -, rfl⟩ | ⟨hbusy, -⟩ |
    ⟨-, ⟨j, -, rfl⟩ | ⟨j, -, rfl⟩ | ⟨j, -, rfl⟩⟩
  · simp [hs] at ht
  · simp [hs] at ht
  · exact hr
  · simp [hs] at ht
  · simp [busy_eq_false.2 hidle] at hbusy
  · simp [hs] at ht
  · simp [hs] at ht
  · simp [hs] at ht

end

theorem readReg_keeps_error (r : Reg) (s : State) :
    (readReg r s).2.err = s.err ∧ (readReg r s).2.errcode = s.errcode := by
  rcases readReg_state r s with e | e <;> simp [e]

/-- Settles O28: the rejections of a busy machine; the checks of an idle CMD write and no others; and the three times at
which KEY_VALID is 0. -/
theorem accessesThatRaiseEachCode : Obligations.AccessesThatRaiseEachCode := by
  refine fun s v => ⟨fun hbusy => ?_, fun hidle => ?_, (readReg_keeps_error · s), rfl, fun hidle j => ?_, ?_⟩
  · obtain ⟨-, hreject, -⟩ := hostCannotChangeInFlightResult
    obtain ⟨hkey, hdin, hctr⟩ := hreject s v hbusy
    exact ⟨cmdWrite_of_inflight hbusy v, hkey, hdin, hctr, rfl,
      ⟨writeStatus v s, rfl, fun h => Bool.and_elim_left h⟩, fun _ => rfl⟩
  · refine ⟨fun hv => cmdWrite_of_illegal hidle (decode_eq_none_iff.2 hv), cmdWrite_of_noKey hidle,
      cmdWrite_of_ctrOverflow hidle, fun r t h hs ht => ?_⟩
    obtain rfl := writeReg_err_rise hidle h hs ht
    exact ⟨rfl, cmdWrite_err_rise hidle h hs ht⟩
  · exact ⟨setKeyWord j v s, by rw [writeReg, whenIdle_of_idle hidle], rfl⟩
  · rw [complete_issue]
    rfl

end Sys2Proof.Machine
end

section
/-! What a reset leaves of CORE (70_reset_and_hazards.md R340, R341). -/

namespace Sys2Proof.Machine

theorem step_reset_turn (s : State) (ts : List Turn) :
    step { s with turns := .reset :: ts } = .next (takeReset { s with turns := ts }) :=
  step_reset rfl

@[simp] theorem ctrlWord_takeReset (s : State) : ctrlWord (takeReset s) = 0x00000000#32 := by
  simp [ctrlWord]

@[simp] theorem statusWord_takeReset (s : State) : statusWord (takeReset s) = 0x00000000#32 := by
  simp [statusWord, State.busy]

@[simp] theorem irq_takeReset (s : State) : irq (takeReset s) = false := by
  simp [irq]

/-- Settles O33: the step is `takeReset`, and each register after it is read off its fields. -/
theorem resetLeavesResetState : Obligations.ResetLeavesResetState := by
  refine fun s ts => ⟨_, step_reset_turn s ts, ctrlWord_takeReset _, statusWord_takeReset _,
    fun i => ?key, fun i => ?din, fun i => ?dout, fun i => ?ctr, takeReset_inflight _, irq_takeReset _, rfl⟩
  case key => rw [takeReset_key, Key.byte_zero]
  case din => rw [takeReset_din, Block.byte_zero]
  case dout => rw [takeReset_dout, Block.byte_zero]
  case ctr => rw [takeReset_ctr, Block.byte_zero]

end Sys2Proof.Machine
end

section
/-! What one accepted register write can do, and what it leaves alone (10_state.md R32 to R45, 45_commands.md R260). -/

namespace Sys2Proof.Machine

/-- The outcomes of an accepted write of `v` to register `r`: nothing, a flag write, a recorded error, or, while idle, a
store or the issue of a command that passes its checks. -/
inductive WriteEffect (r : Reg) (v : Reg32) (s : State) : State → Prop where
  | nothing : WriteEffect r v s s
  | ctrl : WriteEffect r v s (writeCtrl v s)
  | status : r = .status → WriteEffect r v s (writeStatus v s)
  | error (c : CmdError) : WriteEffect r v s (raiseCmdError c s)
  | issued (op : InFlightOp) : s.inflight = none → (clearsKeyValid op = false → s.keyValid = true) →
      (op = .ctr → s.ctrExh = false) → WriteEffect r v s (issue op s)
  | key (j : Fin 8) : s.inflight = none → r = .key j → WriteEffect r v s (setKeyWord j v s)
  | din (j : Fin 4) : s.inflight = none → WriteEffect r v s (setDinWord j v s)
  | ctr (j : Fin 4) : s.inflight = none → WriteEffect r v s (setCtrWord j v s)

theorem writeReg_effect {r : Reg} {v : Reg32} {s t : State} (h : writeReg r v s = .next t) :
    WriteEffect r v s t := by
  rcases writeReg_cases h with ⟨-, rfl⟩ | ⟨hr, rfl⟩ | ⟨-, ⟨i, -, he⟩ | ⟨-, rfl⟩⟩ | ⟨j, -, rfl⟩ |
    ⟨-, -, rfl⟩ | ⟨hb, ⟨j, hr, rfl⟩ | ⟨j, -, rfl⟩ | ⟨j, -, rfl⟩⟩
  · exact .ctrl
  · exact .status hr
  · rcases exec_cases he with ⟨c, rfl, -⟩ | ⟨-, -, rfl⟩ | ⟨op, -, hb, rfl, hk, hc⟩
    · exact .error c
    · exact .nothing
    · exact .issued op (busy_eq_false.1 hb) hk hc
  · exact .error _
  · exact .nothing
  · exact .error _
  · exact .key j (busy_eq_false.1 hb) hr
  · exact .din j (busy_eq_false.1 hb)
  · exact .ctr j (busy_eq_false.1 hb)

/-- No register write reaches the round-key store, DOUT or what stands around CORE. -/
theorem writeReg_keeps {r : Reg} {v : Reg32} {s t : State} (h : writeReg r v s = .next t) :
    t.rk = s.rk ∧ t.dout = s.dout ∧ t.platform = s.platform ∧ t.program = s.program ∧ t.turns = s.turns := by
  cases writeReg_effect h <;> exact ⟨rfl, rfl, rfl, rfl, rfl⟩

/-- A completion leaves the error record and what stands around CORE. -/
theorem completeOp_keeps (f : InFlight) (s : State) :
    (completeOp f s).err = s.err ∧ (completeOp f s).errcode = s.errcode ∧
      (completeOp f s).platform = s.platform ∧ (completeOp f s).program = s.program ∧
      (completeOp f s).turns = s.turns := by
  rcases completeOp_cases f s with ⟨-, e⟩ | ⟨-, e⟩ | ⟨-, e⟩ | ⟨-, e⟩ | ⟨-, e⟩ <;>
    rw [e] <;> exact ⟨rfl, rfl, rfl, rfl, rfl⟩

/-- What is read off CORE's part alone agrees on states with the same part. -/
theorem eq_of_coreOnly {α : Type} (g : State → α) (hg : ∀ s, g (coreOnly s) = g s) {s t : State}
    (h : coreOnly t = coreOnly s) : g t = g s := by
  rw [← hg t, h, hg]

/-- Every step keeps the platform, uses up one turn, and at most takes the first access off the host's program. -/
theorem step_surroundings {s t : State} (h : step s = .next t) :
    t.platform = s.platform ∧ (t.program = s.program ∨ t.program = s.program.tail) ∧
      t.turns = s.turns.tail := by
  rcases step_effect h with ⟨-, hc, hp, ht⟩ | ⟨-, r, v, rest, u, hp, hc, hu, ht, hw⟩ | ⟨-, -, rfl⟩ |
    ⟨-, f, -, rfl⟩ | ⟨-, rfl⟩
  · exact ⟨eq_of_coreOnly State.platform (fun _ => rfl) hc, hp, ht⟩
  · obtain ⟨-, -, hplatform, hprogram, hturns⟩ := writeReg_keeps hw
    have hcore : u.platform = s.platform := eq_of_coreOnly State.platform (fun _ => rfl) hc
    exact ⟨hplatform.trans hcore, .inr (by rw [hprogram, hu, hp, List.tail_cons]), hturns.trans ht⟩
  · exact ⟨rfl, .inl rfl, rfl⟩
  · obtain ⟨-, -, hplatform, hprogram, hturns⟩ := completeOp_keeps f (dropTurn s)
    exact ⟨hplatform, .inl hprogram, hturns⟩
  · exact ⟨rfl, .inl rfl, rfl⟩

end Sys2Proof.Machine
end

section
/-! The invariant of the machine: every operation keeps it (10_state.md section 2 and section 4). -/

namespace Sys2Proof.Machine

/-- The invariant speaks of CORE's part alone. -/
theorem State.Inv.of_coreOnly {s t : State} (hs : s.Inv) (h : coreOnly t = coreOnly s) : t.Inv := by
  have hcore : (coreOnly s).Inv := { hs with }
  rw [← h] at hcore
  exact { hcore with }

theorem inv_takeReset {s : State} (hs : s.Inv) : (takeReset s).Inv where
  base_aligned := hs.base_aligned
  rk_expands := nofun
  snapshot_live := nofun
  errcode_clear _ := rfl
  errcode_known := nofun
  inflight_not_done := nofun
  inflight_key := nofun
  exhausted := nofun
  inflight_ctr := nofun

section
variable {s : State} (hs : s.Inv)
include hs

theorem inv_raiseCmdError (c : CmdError) : (raiseCmdError c s).Inv :=
  { hs with
    errcode_clear := nofun
    errcode_known := fun _ => by
      cases he : s.err with
      | true => simpa [he] using hs.errcode_known he
      | false => cases c <;> simp [he, CmdError.code] }

theorem inv_writeStatus (v : Reg32) : (writeStatus v s).Inv :=
  { hs with
    errcode_clear := fun h => by
      rw [writeStatus_err, Bool.and_eq_false_iff, Bool.not_eq_false'] at h
      rw [writeStatus_errcode]
      split
      · rfl
      · exact hs.errcode_clear (h.resolve_right ‹_›)
    errcode_known := fun h => by
      rw [writeStatus_err, Bool.and_eq_true, Bool.not_eq_true'] at h
      obtain ⟨herr, hv⟩ := h
      rw [writeStatus_errcode, hv]
      exact hs.errcode_known herr
    inflight_not_done := fun f hf => by simp [hs.inflight_not_done f hf] }

end

/-- The snapshot is taken from the live registers, and the checks of R260 give the flags. -/
theorem inv_issue {s : State} (hs : s.Inv) {op : InFlightOp} (hk : clearsKeyValid op = false → s.keyValid = true)
    (hc : op = .ctr → s.ctrExh = false) : (issue op s).Inv :=
  { hs with
    rk_expands := fun h => hs.rk_expands (Bool.and_elim_left h)
    snapshot_live := by rintro f ⟨⟩; exact ⟨rfl, rfl, rfl, rfl⟩
    inflight_not_done := fun _ _ => rfl
    inflight_key := by
      rintro f ⟨⟩
      cases hop : clearsKeyValid op with
      | true => simp [hop]
      | false => simp [hop, hk hop]
    inflight_ctr := by rintro f ⟨⟩; exact hc }

/-- With nothing in flight the clauses about a snapshot say nothing. -/
theorem State.Inv.of_idle {s : State} (hs : s.inflight = none) (hbase : s.platform.coreBase % 0x80 = 0)
    (hrk : s.keyValid = true → s.rk = expand s.key) (hclear : s.err = false → s.errcode = 0)
    (hknown : s.err = true → s.errcode = 1 ∨ s.errcode = 2 ∨ s.errcode = 3 ∨ s.errcode = 4)
    (hexh : s.ctrExh = true → counterExhausted s.ctr = true) : s.Inv where
  base_aligned := hbase
  rk_expands := hrk
  snapshot_live f hf := by simp [hs] at hf
  errcode_clear := hclear
  errcode_known := hknown
  inflight_not_done f hf := by simp [hs] at hf
  inflight_key f hf := by simp [hs] at hf
  exhausted := hexh
  inflight_ctr f hf := by simp [hs] at hf

theorem writeReg_inv {r : Reg} {v : Reg32} {s t : State} (hs : s.Inv) (h : writeReg r v s = .next t) : t.Inv := by
  cases writeReg_effect h with
  | nothing => exact hs
  | ctrl => exact { hs with }
  | status => exact inv_writeStatus hs v
  | error c => exact inv_raiseCmdError hs c
  | issued op _ hk hc => exact inv_issue hs hk hc
  | key j hidle =>
    exact .of_idle hidle hs.base_aligned nofun hs.errcode_clear hs.errcode_known hs.exhausted
  | din j hidle =>
    exact .of_idle hidle hs.base_aligned hs.rk_expands hs.errcode_clear hs.errcode_known hs.exhausted
  | ctr j hidle =>
    exact .of_idle hidle hs.base_aligned hs.rk_expands hs.errcode_clear hs.errcode_known nofun

/-- A completion needs of the invariant that the snapshot is live: KEYEXP expands the key as it stands, and CTR leaves
CTR_EXH set only beside the counter it found exhausted. -/
theorem inv_complete {s : State} {f : InFlight} (hs : s.Inv) (hf : s.inflight = some f) :
    (finish (completeOp f s)).Inv := by
  obtain ⟨hkey, -, -, hctr⟩ := hs.snapshot_live f hf
  rcases completeOp_cases f s with ⟨-, e⟩ | ⟨-, e⟩ | ⟨-, e⟩ | ⟨hop, e⟩ | ⟨-, e⟩ <;> rw [e]
  · exact .of_idle rfl hs.base_aligned (fun _ => congrArg expand hkey) hs.errcode_clear hs.errcode_known
      hs.exhausted
  · exact .of_idle rfl hs.base_aligned hs.rk_expands hs.errcode_clear hs.errcode_known hs.exhausted
  · exact .of_idle rfl hs.base_aligned hs.rk_expands hs.errcode_clear hs.errcode_known hs.exhausted
  · refine .of_idle rfl hs.base_aligned hs.rk_expands hs.errcode_clear hs.errcode_known fun h => ?_
    have hexh : counterExhausted s.ctr = true := by simpa [hs.inflight_ctr f hf hop, hctr] using h
    simp [hctr, hexh]
  · exact .of_idle rfl hs.base_aligned nofun hs.errcode_clear hs.errcode_known nofun

/-- Settles O36: each of the things a step can do keeps the invariant. -/
theorem stepKeepsInvariant : Obligations.StepKeepsInvariant := by
  intro s t hs h
  have hdrop : (dropTurn s).Inv := hs.of_coreOnly (coreOnly_dropTurn s)
  rcases step_effect h with ⟨-, hc, -⟩ | ⟨-, r, v, rest, u, -, hc, -, -, hw⟩ | ⟨-, -, rfl⟩ |
    ⟨-, f, hf, rfl⟩ | ⟨-, rfl⟩
  · exact hs.of_coreOnly hc
  · exact writeReg_inv (hs.of_coreOnly hc) hw
  · exact hdrop
  · exact inv_complete hdrop hf
  · exact inv_takeReset hdrop

end Sys2Proof.Machine
end

section
/-! Which steps write KEY_VALID, the round-key store, DOUT and the error record (10_state.md R38, R39, R44, R49). -/

namespace Sys2Proof.Machine

/-- The completions that write the round-key store. -/
theorem completeOp_rk (f : InFlight) (s : State) :
    (completeOp f s).rk = s.rk ∨ f.op = .keyexp ∧ (completeOp f s).rk = expand f.key ∨
      f.op = .zeroize ∧ (completeOp f s).rk = Sched.zero := by
  rcases completeOp_cases f s with ⟨hop, e⟩ | ⟨-, e⟩ | ⟨-, e⟩ | ⟨-, e⟩ | ⟨hop, e⟩ <;> rw [e]
  · exact .inr (.inl ⟨hop, rfl⟩)
  · exact .inl rfl
  · exact .inl rfl
  · exact .inl rfl
  · exact .inr (.inr ⟨hop, rfl⟩)

/-- The results a completion leaves in DOUT; KEYEXP has none. -/
theorem completeOp_dout (f : InFlight) (s : State) :
    (completeOp f s).dout = s.dout ∨
      (f.op = .ecbEnc ∧ (completeOp f s).dout = encrypt f.rk f.din ∨
        f.op = .ecbDec ∧ (completeOp f s).dout = decrypt f.rk f.din ∨
        f.op = .ctr ∧ (completeOp f s).dout = blockXor f.din (encrypt f.rk f.ctr) ∨
        f.op = .zeroize ∧ (completeOp f s).dout = Block.zero) := by
  rcases completeOp_cases f s with ⟨-, e⟩ | ⟨hop, e⟩ | ⟨hop, e⟩ | ⟨hop, e⟩ | ⟨hop, e⟩ <;> rw [e]
  · exact .inl rfl
  · exact .inr (.inl ⟨hop, rfl⟩)
  · exact .inr (.inr (.inl ⟨hop, rfl⟩))
  · exact .inr (.inr (.inr (.inl ⟨hop, rfl⟩)))
  · exact .inr (.inr (.inr (.inr ⟨hop, rfl⟩)))

/-- A step changes the round-key store or DOUT only by a completion or a reset. -/
theorem step_rk_dout {s t : State} (h : step s = .next t) :
    (t.rk = s.rk ∧ t.dout = s.dout) ∨ nextTurn s = .reset ∨
      (nextTurn s = .sequencer ∧ ∃ f, s.inflight = some f ∧ t = finish (completeOp f (dropTurn s))) := by
  rcases step_effect h with ⟨-, hc, -⟩ | ⟨-, r, v, rest, u, -, hc, -, -, hw⟩ | ⟨-, -, rfl⟩ | hseq | ⟨hn, -⟩
  · exact .inl ⟨eq_of_coreOnly State.rk (fun _ => rfl) hc, eq_of_coreOnly State.dout (fun _ => rfl) hc⟩
  · obtain ⟨hrk, hdout, -⟩ := writeReg_keeps hw
    exact .inl ⟨hrk.trans (eq_of_coreOnly State.rk (fun _ => rfl) hc),
      hdout.trans (eq_of_coreOnly State.dout (fun _ => rfl) hc)⟩
  · exact .inl ⟨rfl, rfl⟩
  · exact .inr (.inr hseq)
  · exact .inr (.inl hn)

/-- Settles O39: of the completions only those of KEYEXP and ZEROIZE write the store. -/
theorem roundKeyStoreWriters : Obligations.RoundKeyStoreWriters := by
  intro s t h hne
  rcases step_rk_dout h with ⟨hrk, -⟩ | hn | ⟨hn, f, hf, rfl⟩
  · exact absurd hrk hne
  · exact .inl hn
  · exact .inr ⟨hn, f, hf, (completeOp_rk f (dropTurn s)).resolve_left hne⟩

theorem readReg_dout_inflight {s : State} (h : s.inflight ≠ none) (j : Fin 4) :
    readReg (.dout j) s = (Config.doutDraw s.draws, nextDraw s) := by
  simp [readReg, busy_eq_true.2 (Option.ne_none_iff_exists'.1 h)]

/-- Settles O21: of the completions only that of KEYEXP leaves DOUT. -/
theorem doutIsReadOnly : Obligations.DoutIsReadOnly := by
  refine ⟨fun s j v => ⟨rfl, fun hidle => readReg_dout_idle hidle j, fun hbusy => readReg_dout_inflight hbusy j⟩,
    fun s t h hne => ?_, Block.byte_zero⟩
  rcases step_rk_dout h with ⟨-, hdout⟩ | hn | ⟨hn, f, hf, rfl⟩
  · exact absurd hdout hne
  · exact .inl hn
  · exact .inr ⟨hn, f, hf, (completeOp_dout f (dropTurn s)).resolve_left hne⟩

/-- What a register write does to KEY_VALID: nothing, or it clears it by an issue of KEYEXP or ZEROIZE or by a KEYj
store, with nothing in flight before. -/
theorem writeReg_keyValid {r : Reg} {v : Reg32} {s t : State} (h : writeReg r v s = .next t) :
    t.keyValid = s.keyValid ∨
      (t.keyValid = false ∧ s.inflight = none ∧
        ((∃ f, t.inflight = some f ∧ (f.op = .keyexp ∨ f.op = .zeroize)) ∨ ∃ j, r = .key j)) := by
  cases writeReg_effect h with
  | issued op hidle =>
    cases hop : clearsKeyValid op with
    | true => exact .inr ⟨by simp [hop], hidle, .inl ⟨_, rfl, clearsKeyValid_iff.1 hop⟩⟩
    | false => exact .inl (by simp [hop])
  | key j hidle hr => exact .inr ⟨rfl, hidle, .inr ⟨j, hr⟩⟩
  | nothing | ctrl | status | error | din | ctr => exact .inl rfl

/-- What a completion does to KEY_VALID. -/
theorem completeOp_keyValid (f : InFlight) (s : State) :
    (f.op = .keyexp ∧ (completeOp f s).keyValid = true) ∨ (f.op = .zeroize ∧ (completeOp f s).keyValid = false) ∨
      (completeOp f s).keyValid = s.keyValid := by
  rcases completeOp_cases f s with ⟨hop, e⟩ | ⟨-, e⟩ | ⟨-, e⟩ | ⟨-, e⟩ | ⟨hop, e⟩ <;> rw [e]
  · exact .inl ⟨hop, rfl⟩
  · exact .inr (.inr rfl)
  · exact .inr (.inr rfl)
  · exact .inr (.inr rfl)
  · exact .inr (.inl ⟨hop, rfl⟩)

/-- What a step does to KEY_VALID. -/
theorem step_keyValid {s t : State} (h : step s = .next t) :
    t.keyValid = s.keyValid ∨
    (nextTurn s = .host ∧ t.keyValid = false ∧ s.inflight = none ∧
      ((∃ f, t.inflight = some f ∧ (f.op = .keyexp ∨ f.op = .zeroize)) ∨ ∃ j v, HostWrites (.key j) v s)) ∨
    (nextTurn s = .sequencer ∧ ∃ f, s.inflight = some f ∧
      (f.op = .keyexp ∧ t.keyValid = true ∨ f.op = .zeroize ∧ t.keyValid = false)) ∨
    (nextTurn s = .reset ∧ t.keyValid = false) := by
  rcases step_effect h with ⟨-, hc, -⟩ | ⟨hn, r, v, rest, u, hp, hc, -, -, hw⟩ | ⟨-, -, rfl⟩ |
    ⟨hn, f, hf, rfl⟩ | ⟨hn, rfl⟩
  · exact .inl (eq_of_coreOnly State.keyValid (fun _ => rfl) hc)
  · have hidle : u.inflight = s.inflight := eq_of_coreOnly State.inflight (fun _ => rfl) hc
    rcases writeReg_keyValid hw with hk | ⟨hk, hu, hissue | ⟨j, rfl⟩⟩
    · exact .inl (hk.trans (eq_of_coreOnly State.keyValid (fun _ => rfl) hc))
    · exact .inr (.inl ⟨hn, hk, hidle ▸ hu, .inl hissue⟩)
    · exact .inr (.inl ⟨hn, hk, hidle ▸ hu, .inr ⟨j, v, hn, rest, hp⟩⟩)
  · exact .inl rfl
  · rcases completeOp_keyValid f (dropTurn s) with hkeyexp | hzeroize | hk
    · exact .inr (.inr (.inl ⟨hn, f, hf, .inl hkeyexp⟩))
    · exact .inr (.inr (.inl ⟨hn, f, hf, .inr hzeroize⟩))
    · exact .inl hk
  · exact .inr (.inr (.inr ⟨hn, rfl⟩))

/-- KEY_VALID rises only at the completion of KEYEXP. -/
theorem step_keyValid_rise {s t : State} (h : step s = .next t) (hs : s.keyValid = false)
    (ht : t.keyValid = true) : nextTurn s = .sequencer ∧ ∃ f, s.inflight = some f ∧ f.op = .keyexp := by
  rcases step_keyValid h with hk | ⟨-, hk, -⟩ | ⟨hn, f, hf, ⟨hop, -⟩ | ⟨-, hk⟩⟩ | ⟨-, hk⟩
  · simp [hs, ht] at hk
  · simp [ht] at hk
  · exact ⟨hn, f, hf, hop⟩
  · simp [ht] at hk
  · simp [ht] at hk

/-- Settles O38: while ZEROIZE is in flight KEY_VALID is 0 already, so its completion makes no fall. -/
theorem keyValidChangesByItsRules : Obligations.KeyValidChangesByItsRules := by
  refine fun s t hs h => ⟨step_keyValid_rise h, fun hv ht => ?_⟩
  rcases step_keyValid h with hk | ⟨hn, -, hidle, hcause⟩ | ⟨-, f, hf, ⟨-, hk⟩ | ⟨hop, -⟩⟩ | ⟨hn, -⟩
  · simp [hv, ht] at hk
  · refine .inr ⟨hn, hidle, hcause.imp_right ?_⟩
    rintro ⟨j, v, -, rest, hp⟩
    exact ⟨j, v, rest, hp⟩
  · simp [ht] at hk
  · have hflag := hs.inflight_key f hf
    simp [hop, clearsKeyValid, hv] at hflag
  · exact .inl hn

/-- A register write keeps a recorded error, unless it is a STATUS write with bit 2 set. -/
theorem writeReg_error {r : Reg} {v : Reg32} {s t : State} (h : writeReg r v s = .next t) (hs : s.err = true) :
    (t.err = true ∧ t.errcode = s.errcode) ∨ (r = .status ∧ v.getLsbD 2 = true ∧ t.err = false) := by
  cases writeReg_effect h with
  | status hr =>
    cases hv : v.getLsbD 2 with
    | true => exact .inr ⟨hr, rfl, by rw [writeStatus_err, hv, Bool.not_true, Bool.and_false]⟩
    | false => exact .inl ⟨by rw [writeStatus_err, hs, hv]; rfl, by rw [writeStatus_errcode, hv]; rfl⟩
  | error c => exact .inl ⟨rfl, if_pos hs⟩
  | nothing | ctrl | issued | key | din | ctr => exact .inl ⟨hs, rfl⟩

/-- What a step does to a recorded error. -/
theorem step_error {s t : State} (h : step s = .next t) (hs : s.err = true) :
    (t.err = true ∧ t.errcode = s.errcode) ∨
      (t.err = false ∧ (nextTurn s = .reset ∨ ∃ v, HostWrites .status v s ∧ v.getLsbD 2 = true)) := by
  rcases step_effect h with ⟨-, hc, -⟩ | ⟨hn, r, v, rest, u, hp, hc, -, -, hw⟩ | ⟨-, -, rfl⟩ |
    ⟨-, f, -, rfl⟩ | ⟨hn, rfl⟩
  · exact .inl ⟨(eq_of_coreOnly State.err (fun _ => rfl) hc).trans hs,
      eq_of_coreOnly State.errcode (fun _ => rfl) hc⟩
  · have hu : u.err = true := (eq_of_coreOnly State.err (fun _ => rfl) hc).trans hs
    rcases writeReg_error hw hu with ⟨herr, hcode⟩ | ⟨rfl, hv, herr⟩
    · exact .inl ⟨herr, hcode.trans (eq_of_coreOnly State.errcode (fun _ => rfl) hc)⟩
    · exact .inr ⟨herr, .inr ⟨v, ⟨hn, rest, hp⟩, hv⟩⟩
  · exact .inl ⟨hs, rfl⟩
  · obtain ⟨herr, hcode, -⟩ := completeOp_keeps f (dropTurn s)
    exact .inl ⟨herr.trans hs, hcode⟩
  · exact .inr ⟨rfl, .inl hn⟩

/-- Settles O40, from what a step does to a recorded error. -/
theorem errorStaysUntilCleared : Obligations.ErrorStaysUntilCleared := by
  intro s t h hs
  rcases step_error h hs with ⟨herr, hcode⟩ | ⟨herr, hcause⟩
  · exact ⟨fun _ => hcode, fun hf => by simp [herr] at hf⟩
  · refine ⟨fun ht => by simp [herr] at ht, fun _ => hcause.imp_right ?_⟩
    rintro ⟨v, ⟨hn, rest, hp⟩, hv⟩
    exact ⟨hn, v, rest, hp, hv⟩

end Sys2Proof.Machine
end

section
/-! What the host cannot tell apart: the key and the round keys in a read, the round keys in any host step
(20_memory.md section 5, 70_reset_and_hazards.md R342). -/

namespace Sys2Proof.Machine

section
variable {s : State}

theorem onBusError_of_ignore (h : s.platform.busErrorPolicy = .ignore) (addr : Nat) :
    onBusError addr s = .next s := by
  simp [onBusError, h]

theorem onBusError_of_record (h : s.platform.busErrorPolicy = .record) (addr : Nat) :
    onBusError addr s = .next { s with busErrorLog := addr :: s.busErrorLog } := by
  simp [onBusError, h]

theorem onBusError_of_fault (h : s.platform.busErrorPolicy = .fault) (addr : Nat) :
    onBusError addr s = .fault (.busError addr) := by
  simp [onBusError, h]

end

/-- The outcome with `g` applied to its next state, if it has one. -/
def onNext (g : State → State) : Host.Outcome State Fault Refusal → Host.Outcome State Fault Refusal
  | .next s => .next (g s)
  | .fault f => .fault f
  | .refused r => .refused r

/-- A change of the state that no register read shows and that leaves alone what a read writes. -/
structure HiddenFromReads (g : State → State) : Prop where
  platform : ∀ s, (g s).platform = s.platform
  readReg : ∀ r s, readReg r (g s) = ((readReg r s).1, g (readReg r s).2)
  logReply : ∀ r s, logReply r (g s) = g (logReply r s)
  busErrorLog : ∀ a s,
    { g s with busErrorLog := a :: (g s).busErrorLog } = g { s with busErrorLog := a :: s.busErrorLog }

section
variable {g : State → State} (hg : HiddenFromReads g)
include hg

theorem HiddenFromReads.onBusError (addr : Nat) (s : State) :
    onBusError addr (g s) = onNext g (onBusError addr s) := by
  have hpolicy : (g s).platform.busErrorPolicy = s.platform.busErrorPolicy := by rw [hg.platform]
  cases hp : s.platform.busErrorPolicy with
  | fault => rw [onBusError_of_fault hp, onBusError_of_fault (hpolicy.trans hp)]; rfl
  | ignore => rw [onBusError_of_ignore hp, onBusError_of_ignore (hpolicy.trans hp)]; rfl
  | record =>
    rw [onBusError_of_record hp, onBusError_of_record (hpolicy.trans hp), hg.busErrorLog]; rfl

theorem HiddenFromReads.deliver (r : Reply) (s : State) : deliver r (g s) = onNext g (deliver r s) := by
  unfold Machine.deliver
  rw [hg.logReply]
  cases r.response with
  | okay => rfl
  | error => exact hg.onBusError ..

theorem HiddenFromReads.busRead (off width : Nat) (s : State) :
    busRead off width (g s) = ((busRead off width s).1, (busRead off width s).2.1, g (busRead off width s).2.2) := by
  unfold Machine.busRead
  cases busSelect off width with
  | ok r => exact congrArg (Prod.mk _) (hg.readReg r s)
  | error => rfl

theorem HiddenFromReads.hostRead (addr width : Nat) (s : State) :
    hostRead addr width (g s) = onNext g (hostRead addr width s) := by
  unfold Machine.hostRead
  rw [hg.platform]
  cases windowOffset s.platform.coreBase addr with
  | none => rfl
  | some off => simp only [hg.busRead, hg.deliver]

end

/-- The state with another key and another round-key store. -/
def withKeys (key : Key) (rk : Sched) (s : State) : State := { s with key := key, rk := rk }

/-- KEYj reads 0 and the round-key store has no register (10_state.md R42, R49). -/
theorem hiddenFromReads_withKeys (key : Key) (rk : Sched) : HiddenFromReads (withKeys key rk) where
  platform _ := rfl
  readReg r s := by
    cases r with
    | dout j =>
      have hbusy : (withKeys key rk s).busy = s.busy := rfl
      simp only [readReg, hbusy]
      split <;> rfl
    | _ => rfl
  logReply _ _ := rfl
  busErrorLog _ _ := rfl

/-- Settles O31: the change of the two is hidden from reads. -/
theorem keyIsNeverReadable : Obligations.KeyIsNeverReadable := fun s t addr width key rk h => by
  have hread := (hiddenFromReads_withKeys key rk).hostRead addr width s
  rwa [h] at hread

section
variable (rk : Sched) (s : State)

@[simp] theorem withRk_busy : (withRk rk s).busy = s.busy := Option.isSome_map

theorem hiddenFromReads_withRk : HiddenFromReads (withRk rk) where
  platform _ := rfl
  readReg r s := by
    cases r with
    | status => simp only [readReg, statusWord, withRk_busy]; rfl
    | dout j =>
      simp only [readReg, withRk_busy]
      split <;> rfl
    | _ => rfl
  logReply _ _ := rfl
  busErrorLog _ _ := rfl

theorem acceptedEffect_withRk (i : Instr) :
    acceptedEffect i (withRk rk s) = withRk rk (acceptedEffect i s) := by
  cases i <;> rfl

/-- An issue with other round keys records the other round keys. -/
theorem exec_withRk (i : Instr) : exec i (withRk rk s) = onNext (withRk rk) (exec i s) := by
  have herror : commandError (needsKey i) (needsCounter i) (withRk rk s) =
      commandError (needsKey i) (needsCounter i) s := by
    simp only [commandError, withRk_busy]; rfl
  rw [exec_eq_acceptOr, exec_eq_acceptOr, acceptOr, acceptOr, herror]
  cases commandError (needsKey i) (needsCounter i) s with
  | some c => rfl
  | none => exact congrArg _ (acceptedEffect_withRk rk s i)

theorem cmdWrite_withRk (v : Reg32) : cmdWrite v (withRk rk s) = onNext (withRk rk) (cmdWrite v s) := by
  unfold cmdWrite
  cases decode v with
  | some i => exact exec_withRk rk s i
  | none => simp only [withRk_busy]; rfl

theorem whenIdle_withRk {store : State → State} (h : store (withRk rk s) = withRk rk (store s)) :
    whenIdle store (withRk rk s) = withRk rk (whenIdle store s) := by
  cases hb : s.busy with
  | true => simp only [whenIdle, withRk_busy, hb]; rfl
  | false => simpa [whenIdle, hb] using h

theorem writeReg_withRk (r : Reg) (v : Reg32) :
    writeReg r v (withRk rk s) = onNext (withRk rk) (writeReg r v s) := by
  cases r with
  | ctrl | status | dout => rfl
  | cmd => exact cmdWrite_withRk rk s v
  | key j => exact congrArg _ (whenIdle_withRk (store := setKeyWord j v) rk s rfl)
  | din j => exact congrArg _ (whenIdle_withRk (store := setDinWord j v) rk s rfl)
  | ctr j => exact congrArg _ (whenIdle_withRk (store := setCtrWord j v) rk s rfl)

theorem hostWrite_withRk (addr width : Nat) (data : Reg32) :
    hostWrite addr width data (withRk rk s) = onNext (withRk rk) (hostWrite addr width data s) := by
  unfold hostWrite
  rw [(hiddenFromReads_withRk rk).platform]
  cases windowOffset s.platform.coreBase addr with
  | none => rfl
  | some off =>
    cases hsel : busSelect off width with
    | ok r => simp only [hsel, ← writeReg_withRk]; rfl
    | error => simp only [hsel, (hiddenFromReads_withRk rk).deliver]

theorem hostPoll_withRk (addr : Nat) (mask value : Reg32) (rest : List HostOp) :
    hostPoll addr mask value rest (withRk rk s) = onNext (withRk rk) (hostPoll addr mask value rest s) := by
  unfold hostPoll
  rw [(hiddenFromReads_withRk rk).hostRead]
  cases hostRead addr 4 s with
  | next t =>
    have hvalue : lastValue (withRk rk t) = lastValue t := rfl
    simp only [onNext, hvalue]
    split <;> rfl
  | fault => rfl
  | refused => rfl

/-- No host step reads the round-key store but to record it at an issue. -/
theorem hostStep_withRk : hostStep (withRk rk s) = onNext (withRk rk) (hostStep s) := by
  have hprogram : (withRk rk s).program = s.program := rfl
  unfold hostStep
  rw [hprogram]
  split
  · rfl
  · rename_i a rest _
    cases a with
    | read addr width => exact (hiddenFromReads_withRk rk).hostRead addr width { s with program := rest }
    | write addr width data => exact hostWrite_withRk rk { s with program := rest } addr width data
  · exact hostPoll_withRk ..

theorem nextTurn_withRk : nextTurn (withRk rk s) = nextTurn s := by
  simp only [nextTurn, withRk_busy]; rfl

/-- KEYEXP and ZEROIZE complete without the round keys, and write the store. -/
theorem complete_withRk {f : InFlight} (hf : s.inflight = some f) (hop : clearsKeyValid f.op = true) :
    complete (withRk rk s) = complete s := by
  have hf' : (withRk rk s).inflight = some { f with rk := rk } := by simp [withRk, hf]
  rw [complete_inflight hf, complete_inflight hf']
  rcases clearsKeyValid_iff.1 hop with h | h <;> simp only [completeOp, h] <;> rfl

/-- With KEY_VALID = 0 the step does not see the store, or only carries it along and leaves KEY_VALID at 0. -/
theorem step_withRk (hs : s.Inv) (hk : s.keyValid = false) :
    step (withRk rk s) = step s ∨
      (step (withRk rk s) = onNext (withRk rk) (step s) ∧ ∀ t, step s = .next t → t.keyValid = false) := by
  have hturn := nextTurn_withRk rk s
  have hkept (hn : nextTurn s ≠ .sequencer ∨ s.inflight = none) (t : State) (h : step s = .next t) :
      t.keyValid = false := by
    by_contra hne
    obtain ⟨hseq, f, hf, -⟩ := step_keyValid_rise h hk (Bool.eq_true_of_not_eq_false hne)
    rcases hn with hn | hidle
    · exact hn hseq
    · simp [hf] at hidle
  cases hn : nextTurn s with
  | host =>
    refine .inr ⟨?_, hkept (.inl (by simp [hn]))⟩
    rw [step_host hn, step_host (hturn.trans hn)]
    exact hostStep_withRk rk (dropTurn s)
  | reset =>
    rw [step_reset hn, step_reset (hturn.trans hn)]
    exact .inl rfl
  | sequencer =>
    cases hf : s.inflight with
    | none =>
      refine .inr ⟨?_, hkept (.inr hf)⟩
      have hf' : (dropTurn (withRk rk s)).inflight = none := by simp [withRk, hf]
      rw [step_sequencer hn, step_sequencer (hturn.trans hn), complete_idle hf', complete_idle (by simpa using hf)]
      rfl
    | some f =>
      have hop : clearsKeyValid f.op = true := by simpa [hk] using hs.inflight_key f hf
      rw [step_sequencer hn, step_sequencer (hturn.trans hn)]
      exact .inl (congrArg _ (complete_withRk rk (dropTurn s) hf hop))

end

/-- Settles O37: a host step only carries the store along; the completion that can come while KEY_VALID = 0 and a reset
both overwrite it. -/
theorem unspecifiedRoundKeysNeverObserved : Obligations.UnspecifiedRoundKeysNeverObserved := by
  intro s rk hs hk
  rcases step_withRk rk s hs hk with h | ⟨h, hkept⟩
  · rw [h]
    exact ⟨fun _ => .inl, fun _ => id, fun _ => id⟩
  · rw [h]
    refine ⟨fun t ht => .inr ⟨hkept t ht, ?_⟩, fun f hf => ?_, fun r hr => ?_⟩
    · rw [ht]; rfl
    · rw [hf]; rfl
    · rw [hr]; rfl

end Sys2Proof.Machine
end

section
/-! Host accesses by address and width: accepted, in error, outside the window (20_memory.md R80 to R85,
60_exceptions.md R305). -/

namespace Sys2Proof.Machine

theorem busSelect_of_width {width : Nat} (h : width ≠ 4) (off : Nat) : busSelect off width = .error .width :=
  if_pos h

theorem busSelect_of_misaligned {off : Nat} (h : off % 4 ≠ 0) : busSelect off 4 = .error .alignment := by
  rw [busSelect, if_neg (not_not_intro rfl), if_pos h]

theorem regOffset_in_map (r : Reg) : r.offset < 0x60 ∧ r.offset ≠ 0x0C := by
  cases r <;> simp only [Reg.offset] <;> omega

theorem regAt_of_reserved {off : Nat} (h : off = 0x0C ∨ 0x60 ≤ off) : regAt off = none := by
  refine Option.eq_none_iff_forall_ne_some.2 fun r hr => ?_
  obtain ⟨hlt, hgap⟩ := regOffset_in_map r
  rw [← regAt_eq_some.1 hr] at hlt hgap
  omega

theorem busSelect_of_reserved {off : Nat} (hmod : off % 4 = 0) (h : off = 0x0C ∨ 0x60 ≤ off) :
    busSelect off 4 = .error .reserved := by
  simp [busSelect, hmod, regAt_of_reserved h]

theorem busSelect_offset (r : Reg) : busSelect r.offset 4 = .ok r := busSelect_eq_ok.2 ⟨rfl, rfl⟩

section
variable {off width : Nat} {s : State}

theorem windowOffset_base_add (hoff : off < 0x80) (base : Nat) : windowOffset base (base + off) = some off :=
  windowOffset_eq_some.2 ⟨rfl, hoff⟩

theorem busRead_of_error {c : BusErrorCause} (hc : busSelect off width = .error c) :
    busRead off width s = (.error, 0, s) := by
  simp [busRead, hc]

theorem hostRead_base_add (hoff : off < 0x80) :
    hostRead (s.platform.coreBase + off) width s =
      deliver
        { access := .read (s.platform.coreBase + off) width
          response := (busRead off width s).1
          value := some (busRead off width s).2.1 }
        (busRead off width s).2.2 := by
  rw [hostRead, windowOffset_base_add hoff]

theorem hostWrite_of_ok {r : Reg} (hoff : off < 0x80) (hr : busSelect off width = .ok r) (data : Reg32) :
    hostWrite (s.platform.coreBase + off) width data s =
      writeReg r data (logReply
        { access := .write (s.platform.coreBase + off) width data, response := .okay, value := none } s) := by
  simp only [hostWrite, windowOffset_base_add hoff, hr]

theorem deliver_error {r : Reply} (hr : r.response = .error) :
    deliver r s = onBusError r.access.addr (logReply r s) := by
  simp [deliver, hr]

theorem hostRead_of_error {c : BusErrorCause} (hoff : off < 0x80) (hc : busSelect off width = .error c) :
    hostRead (s.platform.coreBase + off) width s = onBusError (s.platform.coreBase + off) (logReply
      { access := .read (s.platform.coreBase + off) width, response := .error, value := some 0 } s) := by
  rw [hostRead_base_add hoff, busRead_of_error hc]
  exact deliver_error rfl

theorem hostWrite_of_error {c : BusErrorCause} (hoff : off < 0x80) (hc : busSelect off width = .error c)
    (data : Reg32) :
    hostWrite (s.platform.coreBase + off) width data s = onBusError (s.platform.coreBase + off) (logReply
      { access := .write (s.platform.coreBase + off) width data, response := .error, value := none } s) := by
  simp only [hostWrite, windowOffset_base_add hoff, hc]
  exact deliver_error rfl

end

/-- Settles O23: the causes by the branches of `busSelect`, then the delivery of the ERROR reply under each policy. -/
theorem busErrorsChangeNothing : Obligations.BusErrorsChangeNothing := by
  refine ⟨fun off width => ⟨fun h => busSelect_of_width h off, ?_, ?_⟩, fun s off width data c hoff hc => ?_⟩
  · rintro rfl; exact busSelect_of_misaligned
  · rintro rfl; exact busSelect_of_reserved
  · rw [hostRead_of_error hoff hc, hostWrite_of_error hoff hc]
    exact ⟨busRead_of_error hc,
      fun hp => ⟨onBusError_of_ignore (s := logReply _ s) hp _, onBusError_of_ignore (s := logReply _ s) hp _⟩,
      fun hp => ⟨onBusError_of_record (s := logReply _ s) hp _, onBusError_of_record (s := logReply _ s) hp _⟩,
      fun hp => ⟨onBusError_of_fault (s := logReply _ s) hp _, onBusError_of_fault (s := logReply _ s) hp _⟩⟩

theorem windowOffset_eq_none {base addr : Nat} (h : addr < base ∨ base + 0x80 ≤ addr) :
    windowOffset base addr = none := if_neg (by omega)

/-- Settles O25: there is no offset for such an address. -/
theorem outsideWindowIsRefused : Obligations.OutsideWindowIsRefused := by
  intro s addr width data h
  rw [hostRead, hostWrite, windowOffset_eq_none h]
  exact ⟨rfl, rfl⟩

/-- Settles O26, from what a read and a poll read leave. -/
theorem readsHaveNoSideEffects : Obligations.ReadsHaveNoSideEffects := by
  refine ⟨fun s t addr width h => ?_, fun s t addr mask value rest h => ?_⟩
  · obtain ⟨hcore, -⟩ := hostRead_next h
    exact hcore
  · obtain ⟨hcore, -⟩ := hostPoll_next h
    exact hcore

theorem writeStatus_writeStatus (v : Reg32) (s : State) : writeStatus v (writeStatus v s) = writeStatus v s := by
  have herr : (if v.getLsbD 2 then 0 else if v.getLsbD 2 then 0 else s.errcode) =
      if v.getLsbD 2 then 0 else s.errcode := by
    cases v.getLsbD 2 <;> rfl
  simp only [writeStatus, Bool.and_assoc, Bool.and_self, herr]

theorem setKeyWord_setKeyWord (j : Fin 8) (v : Reg32) (s : State) :
    setKeyWord j v (setKeyWord j v s) = setKeyWord j v s := by
  simp [setKeyWord]

theorem setDinWord_setDinWord (j : Fin 4) (v : Reg32) (s : State) :
    setDinWord j v (setDinWord j v s) = setDinWord j v s := by
  simp [setDinWord]

theorem setCtrWord_setCtrWord (j : Fin 4) (v : Reg32) (s : State) :
    setCtrWord j v (setCtrWord j v s) = setCtrWord j v s := by
  simp [setCtrWord]

theorem whenIdle_whenIdle {store : State → State} (htwice : ∀ s, store (store s) = store s)
    (hkeeps : ∀ s, (store s).inflight = s.inflight) {s : State} (hidle : s.inflight = none) :
    whenIdle store (whenIdle store s) = whenIdle store s := by
  rw [whenIdle_of_idle hidle, whenIdle_of_idle ((hkeeps s).trans hidle), htwice]

/-- Settles O27: each of the writes is idempotent, and leaves the machine idle. -/
theorem repeatedWriteIsOneWrite : Obligations.RepeatedWriteIsOneWrite := by
  intro r v s t hr hidle h
  cases r with
  | cmd => exact absurd rfl hr
  | ctrl | dout => cases h; rfl
  | status => cases h; exact congrArg Host.Outcome.next (writeStatus_writeStatus v s)
  | key j =>
    cases h
    exact congrArg Host.Outcome.next (whenIdle_whenIdle (setKeyWord_setKeyWord j v) (fun _ => rfl) hidle)
  | din j =>
    cases h
    exact congrArg Host.Outcome.next (whenIdle_whenIdle (setDinWord_setDinWord j v) (fun _ => rfl) hidle)
  | ctr j =>
    cases h
    exact congrArg Host.Outcome.next (whenIdle_whenIdle (setCtrWord_setCtrWord j v) (fun _ => rfl) hidle)

theorem regOffset_lt_window (r : Reg) : r.offset < 0x80 := (regOffset_in_map r).1.trans (by decide)

theorem readReg_replies (r : Reg) (s : State) : (readReg r s).2.replies = s.replies := by
  rcases readReg_state r s with e | e
  · rw [e]
  · rw [e, nextDraw_replies]

/-- 20_memory.md R85, the read. -/
theorem hostRead_register (r : Reg) (s : State) :
    hostRead (s.platform.coreBase + r.offset) 4 s = .next { (readReg r s).2 with
      replies :=
        { access := .read (s.platform.coreBase + r.offset) 4, response := .okay, value := some (readReg r s).1 } ::
          s.replies } := by
  have hread : busRead r.offset 4 s = (.okay, readReg r s) := by rw [busRead, busSelect_offset]
  rw [hostRead_base_add (regOffset_lt_window r), hread, ← readReg_replies r s]
  rfl

/-- 20_memory.md R85, the write. -/
theorem hostWrite_register (r : Reg) (v : Reg32) (s : State) :
    hostWrite (s.platform.coreBase + r.offset) 4 v s = writeReg r v { s with
      replies := { access := .write (s.platform.coreBase + r.offset) 4 v, response := .okay, value := none } ::
        s.replies } :=
  hostWrite_of_ok (regOffset_lt_window r) (busSelect_offset r) v

theorem step_access {s : State} {a : HostAccess} {rest : List HostOp} (hn : nextTurn s = .host)
    (hp : s.program = .access a :: rest) :
    step s = hostAccess a { s with program := rest, turns := s.turns.tail } := by
  rw [step_host hn, hostStep, dropTurn_program, hp]
  rfl

/-- Settles O60: the access on the bus, then the host step that takes it from the program. -/
theorem acceptedAccessReachesItsRegister : Obligations.AcceptedAccessReachesItsRegister := by
  refine fun s r v => ⟨hostRead_register r s, hostWrite_register r v s, fun rest hn =>
    ⟨fun hp => ?_, fun hp => ?_⟩⟩
  · exact (step_access hn hp).trans (hostRead_register r { s with program := rest, turns := s.turns.tail })
  · exact (step_access hn hp).trans (hostWrite_register r v { s with program := rest, turns := s.turns.tail })

theorem step_cmdWrite {s : State} {w : Reg32} {i : Instr} {rest : List HostOp} (hn : nextTurn s = .host)
    (hp : s.program = .access (.write (s.platform.coreBase + 0x08) 4 w) :: rest) (hw : decode w = some i) :
    step s = exec i { s with
      program := rest
      turns := s.turns.tail
      replies := { access := .write (s.platform.coreBase + 0x08) 4 w, response := .okay, value := none } ::
        s.replies } := by
  obtain ⟨-, -, hstep⟩ := acceptedAccessReachesItsRegister s .cmd w
  obtain ⟨-, hwrite⟩ := hstep rest hn
  exact (hwrite hp).trans (cmdWrite_of_decode hw _)

theorem decode_of_decodeTableWord {nbits w : Nat} {i : Instr} (h : decodeTableWord nbits w = some i) :
    decode (BitVec.ofNat 32 (w % 2 ^ nbits)) = some i := by
  unfold decodeTableWord at h
  split at h
  · exact h
  · cases h

/-- Settles O4: the accepted write at CMD's address, and `withFetchWord` puts one next. -/
theorem stepRunsDecodedCommand : Obligations.StepRunsDecodedCommand :=
  ⟨fun _ _ _ _ => step_cmdWrite, fun s nbits w _ h =>
    step_cmdWrite (s := s.withFetchWord nbits w) rfl rfl (decode_of_decodeTableWord h)⟩

end Sys2Proof.Machine
end

section
/-! A host that stays in the window: the machine goes on, and what is in flight completes (20_memory.md R80,
45_commands.md R263). -/

namespace Sys2Proof.Machine

theorem exists_of_inWindow {base addr : Nat} (h : Access.inWindow base addr = true) :
    ∃ off, off < 0x80 ∧ addr = base + off := by
  simp only [Access.inWindow, Bool.and_eq_true, decide_eq_true_eq] at h
  exact ⟨addr - base, by omega, by omega⟩

theorem writeReg_runs (r : Reg) (v : Reg32) (s : State) : ∃ t, writeReg r v s = .next t := by
  cases r with
  | cmd =>
    rw [writeReg, cmdWrite]
    split
    · exact exec_runs _ s
    · exact ⟨_, rfl⟩
  | _ => exact ⟨_, rfl⟩

section
variable {s : State} (hpolicy : s.platform.busErrorPolicy ≠ .fault)
include hpolicy

theorem deliver_runs (r : Reply) : ∃ t, deliver r s = .next t := by
  cases hr : r.response with
  | okay => exact ⟨logReply r s, by simp [deliver, hr]⟩
  | error =>
    rw [deliver_error hr]
    cases hp : s.platform.busErrorPolicy with
    | fault => exact absurd hp hpolicy
    | ignore => exact ⟨_, onBusError_of_ignore (s := logReply r s) hp _⟩
    | record => exact ⟨_, onBusError_of_record (s := logReply r s) hp _⟩

theorem hostRead_runs {addr : Nat} (haddr : Access.inWindow s.platform.coreBase addr = true) (width : Nat) :
    ∃ t, hostRead addr width s = .next t := by
  obtain ⟨off, hoff, rfl⟩ := exists_of_inWindow haddr
  rw [hostRead_base_add hoff]
  rcases busRead_state off width s with e | e <;> rw [e]
  · exact deliver_runs hpolicy _
  · exact deliver_runs (s := nextDraw s) hpolicy _

theorem hostPoll_runs {addr : Nat} (haddr : Access.inWindow s.platform.coreBase addr = true) (mask value : Reg32)
    (rest : List HostOp) : ∃ t, hostPoll addr mask value rest s = .next t := by
  obtain ⟨t, ht⟩ := hostRead_runs hpolicy haddr 4
  simp only [hostPoll, ht]
  exact ⟨_, rfl⟩

theorem hostWrite_runs {addr : Nat} (haddr : Access.inWindow s.platform.coreBase addr = true) (width : Nat)
    (data : Reg32) : ∃ t, hostWrite addr width data s = .next t := by
  obtain ⟨off, hoff, rfl⟩ := exists_of_inWindow haddr
  cases hsel : busSelect off width with
  | ok r =>
    rw [hostWrite_of_ok hoff hsel]
    exact writeReg_runs ..
  | error c =>
    simp only [hostWrite, windowOffset_base_add hoff, hsel]
    exact deliver_runs hpolicy _

end

theorem hostStep_runs {s : State} (hs : HostOk s) : ∃ t, hostStep s = .next t := by
  obtain ⟨hpolicy, hwindow⟩ := hs
  unfold hostStep
  split
  · exact ⟨s, rfl⟩
  · rename_i a rest hp
    have haddr := hwindow (.access a) (by simp [hp])
    cases a with
    | read => exact hostRead_runs (s := { s with program := rest }) hpolicy haddr _
    | write => exact hostWrite_runs (s := { s with program := rest }) hpolicy haddr _ _
  · rename_i addr mask value rest hp
    exact hostPoll_runs hpolicy (hwindow (.poll addr mask value) (by simp [hp])) mask value rest

theorem step_runs {s : State} (hs : HostOk s) : Runs s := by
  cases hn : nextTurn s with
  | host => rw [Runs, step_host hn]; exact hostStep_runs (s := dropTurn s) hs
  | sequencer => exact ⟨_, step_sequencer hn⟩
  | reset => exact ⟨_, step_reset hn⟩

theorem hostOk_step {s t : State} (hs : HostOk s) (h : step s = .next t) : HostOk t := by
  obtain ⟨hplatform, hprogram, -⟩ := step_surroundings h
  obtain ⟨hpolicy, hwindow⟩ := hs
  rw [HostOk, hplatform]
  refine ⟨hpolicy, fun op hop => hwindow op ?_⟩
  rcases hprogram with e | e
  · exact e ▸ hop
  · exact List.mem_of_mem_tail (e ▸ hop)

/-- Settles O44: the only two stops are excluded, and a step adds nothing to the program. -/
theorem hostInWindowNeverStops : Obligations.HostInWindowNeverStops := by
  intro s hs
  obtain ⟨t, ht⟩ := step_runs hs
  exact ⟨t, ht, hostOk_step hs ht⟩

theorem run_succ {s t : State} (h : step s = .next t) (n : Nat) : core.run (n + 1) s = core.run n t := by
  have hstep : core.step s = .next t := h
  simp only [Host.Core.run, hstep]

theorem nextTurn_of_no_turns {s : State} (hs : s.inflight ≠ none) (h : s.turns = []) : nextTurn s = .sequencer := by
  simp [nextTurn, h, busy_eq_true.2 (Option.ne_none_iff_exists'.1 hs)]

theorem nextTurn_of_turns {s : State} {a : Turn} {ts : List Turn} (h : s.turns = a :: ts) : nextTurn s = a := by
  simp [nextTurn, h]

/-- The sequencer's turn ends what is in flight and sets DONE. -/
theorem step_completes {s : State} (hs : s.inflight ≠ none) (hn : nextTurn s = .sequencer) :
    ∃ t, step s = .next t ∧ t.inflight = none ∧ t.done = true := by
  obtain ⟨t, ht, hdone⟩ := step_sequencer_done hs hn
  exact ⟨t, ht, (step_busy_fall ht hs).2 (.inl hn), hdone⟩

/-- Settles O43, by induction on the scheduler's remaining choices: each is the host's, which leaves the command in
flight, or the sequencer's, which completes it. -/
theorem inFlightCommandCompletes : Obligations.InFlightCommandCompletes := by
  intro s hok hs hreset
  induction hts : s.turns generalizing s with
  | nil =>
    obtain ⟨t, ht, hidle, hdone⟩ := step_completes hs (nextTurn_of_no_turns hs hts)
    exact ⟨1, t, le_rfl, run_succ ht 0, hidle, hdone⟩
  | cons a ts ih =>
    have hn := nextTurn_of_turns hts
    cases a with
    | sequencer =>
      obtain ⟨t, ht, hidle, hdone⟩ := step_completes hs hn
      exact ⟨1, t, by simp, run_succ ht 0, hidle, hdone⟩
    | reset => simp [hts] at hreset
    | host =>
      obtain ⟨u, hu⟩ := step_runs hok
      obtain ⟨-, -, hturns⟩ := step_surroundings hu
      have hts' : u.turns = ts := by rw [hturns, hts, List.tail_cons]
      have hbusy : u.inflight ≠ none := by simp [step_busy_fall hu hs, hn]
      have hreset' : Turn.reset ∉ u.turns := fun hmem => hreset (by rw [hts, ← hts']; exact .tail _ hmem)
      obtain ⟨n, t, hle, hrun, hidle, hdone⟩ := ih u (hostOk_step hok hu) hbusy hreset' hts'
      exact ⟨n + 1, t, Nat.succ_le_succ hle, (run_succ hu n).trans hrun, hidle, hdone⟩

end Sys2Proof.Machine
end

section
/-! The frame of a command write and the table of the completions (45_commands.md R261, R292). -/

namespace Sys2Proof.Machine

/-- Every register but STATUS and DOUTj reads as its own field alone, or as 0. -/
theorem readReg_value_congr {s t : State} (hdone : t.ieDone = s.ieDone) (herr : t.ieErr = s.ieErr)
    (hdin : t.din = s.din) (hctr : t.ctr = s.ctr) (r : Reg) (hstatus : r ≠ .status) (hdout : ∀ j, r ≠ .dout j) :
    (readReg r t).1 = (readReg r s).1 := by
  cases r with
  | status => exact absurd rfl hstatus
  | dout j => exact absurd rfl (hdout j)
  | ctrl => simp only [readReg, ctrlWord, hdone, herr]
  | cmd | key => rfl
  | din => simp only [readReg, hdin]
  | ctr => simp only [readReg, hctr]

theorem instrOf_ne_nop (op : InFlightOp) : instrOf op ≠ .nop := by
  cases op <;> decide

/-- An issue that changes KEY_VALID clears it, and is KEYEXP's or ZEROIZE's. -/
theorem issue_keyValid_ne {op : InFlightOp} {s : State} (h : (issue op s).keyValid ≠ s.keyValid) :
    (instrOf op = .keyexp ∨ instrOf op = .zeroize) ∧ (issue op s).keyValid = false := by
  cases hop : clearsKeyValid op with
  | false => simp [hop] at h
  | true => exact ⟨(clearsKeyValid_iff.1 hop).imp (congrArg instrOf) (congrArg instrOf), by simp [hop]⟩

/-- Settles O14: a command write records an error, does nothing, or issues, which puts a command in flight where there
was none. -/
theorem commandWriteFrame : Obligations.CommandWriteFrame := by
  intro i s t h
  rcases exec_cases h with ⟨c, rfl, -⟩ | ⟨-, -, rfl⟩ | ⟨op, rfl, hb, rfl, -⟩
  · exact ⟨rfl, fun _ => ⟨rfl, rfl⟩, fun hne => absurd rfl hne, fun hne => absurd rfl hne,
      readReg_value_congr rfl rfl rfl rfl⟩
  · exact ⟨rfl, fun _ => ⟨rfl, rfl⟩, fun hne => absurd rfl hne, fun hne => absurd rfl hne,
      readReg_value_congr rfl rfl rfl rfl⟩
  · have hissued : (issue op s).inflight ≠ s.inflight := by simp [busy_eq_false.1 hb]
    exact ⟨rfl, fun heq => absurd heq hissued, fun _ => ⟨rfl, rfl, rfl, instrOf_ne_nop op⟩, issue_keyValid_ne,
      readReg_value_congr rfl rfl rfl rfl⟩

/-- 10_state.md R51: in a state that meets the invariant the record in flight is the live registers. -/
theorem State.Inv.inflight_eq_snapshot {s : State} {f : InFlight} (hs : s.Inv) (hf : s.inflight = some f) :
    f = snapshot f.op s := by
  obtain ⟨hkey, hrk, hdin, hctr⟩ := hs.snapshot_live f hf
  rw [snapshot, ← hkey, ← hrk, ← hdin, ← hctr]

/-- 45_commands.md R281, the two branches side by side. -/
theorem completeCtr_eq (f : InFlight) (s : State) :
    completeCtr f s = { s with
      dout := blockXor f.din (encrypt f.rk f.ctr)
      ctr := if counterField f.ctr = BitVec.allOnes 64 then s.ctr
        else withCounter s.ctr (counterField f.ctr + 1)
      ctrExh := if counterField f.ctr = BitVec.allOnes 64 then true else s.ctrExh } := by
  by_cases h : counterField f.ctr = BitVec.allOnes 64
  · have hexh : counterExhausted f.ctr = true := beq_iff_eq.2 h
    rw [completeCtr, hexh, if_pos h, if_pos h, Bool.or_true]
    rfl
  · have hexh : counterExhausted f.ctr = false := beq_eq_false_iff_ne.2 h
    rw [completeCtr, hexh, if_neg h, if_neg h, Bool.or_false]
    rfl

/-- Settles O15: the completion of the command in flight, whose record is the live registers. -/
theorem completionEffects : Obligations.CompletionEffects := by
  intro s f hs hf hn
  have hu : complete (dropTurn s) = finish (completeOp (snapshot f.op s) (dropTurn s)) := by
    rw [← hs.inflight_eq_snapshot hf]
    exact complete_inflight hf
  refine ⟨_, step_sequencer hn, ?_, fun hop => ?_, fun hop => ?_, fun hop => ?_, fun hop => ?_, fun hop => ?_⟩
  all_goals rw [hu]
  · rw [statusWord_busy, State.busy, finish_inflight]; rfl
  · rw [hop]; rfl
  · rw [hop]; rfl
  · rw [hop]; rfl
  · rw [hop]; exact congrArg finish (completeCtr_eq (snapshot .ctr s) (dropTurn s))
  · rw [hop]; rfl

end Sys2Proof.Machine
end

section
/-! The irq output, the state after a reset, and the command words of the encoding table (10_state.md R52,
70_reset_and_hazards.md R340, 30_encoding.md R123). -/

namespace Sys2Proof.Machine

theorem irqLine_iff {n : Nat} {s : State} : irqLine n s = true ↔ n = s.platform.coreIrq ∧ irq s = true := by
  rw [irqLine, Bool.and_eq_true, beq_iff_eq]

/-- Settles O32, by the bits of the two words. -/
theorem irqFollowsStatusAndCtrl : Obligations.IrqFollowsStatusAndCtrl := by
  refine ⟨fun s => ?_, rfl, fun s n => irqLine_iff⟩
  simp only [readReg, ctrlWord_ieDone, ctrlWord_ieErr, statusWord_done, statusWord_err, irq]

/-- Settles O34: what `takeReset` leaves. -/
theorem resetKeepsTheSurroundings : Obligations.ResetKeepsTheSurroundings := fun s ts =>
  ⟨_, step_reset_turn s ts, rfl, rfl, rfl, rfl, rfl, rfl, rfl⟩

/-- Settles O35: at reset every clause but the platform's speaks of a flag that is 0 or of a command in flight. -/
theorem resetMeetsInvariant : Obligations.ResetMeetsInvariant := fun _ _ hp =>
  .of_idle rfl (beq_iff_eq.1 hp) nofun (fun _ => rfl) nofun nofun

/-- Settles O2, one command after another. -/
theorem encodedCommandDecodesBack : Obligations.EncodedCommandDecodesBack := by
  intro i _
  cases i with
  | nop => exact Laws.RoundTrip.nop.2
  | keyexp => exact Laws.RoundTrip.keyexp.2
  | ecbEnc => exact Laws.RoundTrip.ecbEnc.2
  | ecbDec => exact Laws.RoundTrip.ecbDec.2
  | ctr => exact Laws.RoundTrip.ctr.2
  | zeroize => exact Laws.RoundTrip.zeroize.2

/-- Settles O1: the six words are those of `encode`, and the other four are above 5. -/
theorem commandWordsDecode : Obligations.CommandWordsDecode :=
  ⟨encodedCommandDecodesBack .nop rfl, encodedCommandDecodesBack .keyexp rfl, encodedCommandDecodesBack .ecbEnc rfl,
    encodedCommandDecodesBack .ecbDec rfl, encodedCommandDecodesBack .ctr rfl, encodedCommandDecodesBack .zeroize rfl,
    decode_eq_none_iff.2 (by decide), decode_eq_none_iff.2 (by decide), decode_eq_none_iff.2 (by decide),
    decode_eq_none_iff.2 (by decide)⟩

end Sys2Proof.Machine
end

section
/-! The field laws of the multiplier, and the S-box as the affine map of the inverse (40_gf256.md R155, R156,
41_sbox.md R174). -/

namespace Sys2Proof.Machine

theorem zero_gmul (a : Byte) : gmul 0x00#8 a = 0x00#8 := by
  rw [gmul_comm, gmul_zero]

/-- The map that undoes `affine`. -/
def unaffine (y : Byte) : Byte := rotl8 y 1 ^^^ rotl8 y 3 ^^^ rotl8 y 6 ^^^ 0x05#8

/-- Read off the table: S-ROM holds at each nonzero address the affine map of an inverse. -/
theorem gmul_unaffine_sub : ∀ a : Byte, a ≠ 0x00#8 → gmul a (unaffine (sub a)) = 0x01#8 := by
  decide

theorem affine_unaffine : ∀ y : Byte, affine (unaffine y) = y := by
  decide

/-- 40_gf256.md R156: two inverses of one byte are equal, since the product associates and commutes. -/
theorem gmul_inverse_unique {a x y : Byte} (hx : gmul a x = 0x01#8) (hy : gmul a y = 0x01#8) : y = x := by
  calc y = gmul y (gmul a x) := by rw [hx, gmul_one]
    _ = gmul (gmul a y) x := by rw [← gmul_assoc, gmul_comm y a]
    _ = x := by rw [hy, gmul_comm, gmul_one]

theorem mem_allBytes (y : Byte) : y ∈ allBytes :=
  List.mem_map.2 ⟨y.toNat, List.mem_range.2 y.isLt, (BitVec.ofNat_toNat 8 y).trans (BitVec.setWidth_eq y)⟩

/-- The search of `ginv` finds an inverse where there is one. -/
theorem gmul_ginv_of_inverse {a x : Byte} (hx : gmul a x = 0x01#8) : gmul a (ginv a) = 0x01#8 := by
  have hsome : (allBytes.find? fun y => gmul a y == 0x01#8).isSome :=
    List.find?_isSome.2 ⟨x, mem_allBytes x, beq_iff_eq.2 hx⟩
  obtain ⟨y, hy⟩ := Option.isSome_iff_exists.1 hsome
  rw [ginv, hy, Option.getD_some]
  exact beq_iff_eq.1 (List.find?_some (p := fun y => gmul a y == 0x01#8) hy)

theorem gmul_ginv {a : Byte} (ha : a ≠ 0x00#8) : gmul a (ginv a) = 0x01#8 :=
  gmul_ginv_of_inverse (gmul_unaffine_sub a ha)

theorem ginv_zero : ginv 0x00#8 = 0x00#8 := by
  have hnone : (allBytes.find? fun y => gmul 0x00#8 y == 0x01#8) = none :=
    List.find?_eq_none.2 fun y _ => by rw [zero_gmul]; decide
  rw [ginv, hnone, Option.getD_none]

/-- Settles O47: the S-box shows an inverse of each nonzero byte, the search finds one, and there is no other. -/
theorem ginvIsTheInverse : Obligations.GinvIsTheInverse := fun _ ha =>
  ⟨gmul_ginv ha, fun _ hy => gmul_inverse_unique (gmul_ginv ha) hy⟩

/-- Settles O49: undoing the affine map on the entry gives an inverse of the address, so `ginv`. -/
theorem sboxMatchesItsAlgebra : Obligations.SboxMatchesItsAlgebra := by
  intro b
  by_cases hb : b = 0x00#8
  · rw [hb, ginv_zero]
    decide
  · rw [gmul_inverse_unique (gmul_unaffine_sub b hb) (gmul_ginv hb), affine_unaffine]

/-- Multiplication by x is the doubling of R152. Both are linear. -/
theorem gmul_two (a : Byte) : gmul a 0x02#8 = xtime a :=
  have hbit : ∀ i : Fin 8, gmul (BitVec.twoPow 8 i) 0x02#8 = xtime (BitVec.twoPow 8 i) := by decide
  congrFun ((gmul_xorLinear_left 0x02#8).eq_of_twoPow xtime_xorLinear hbit) a

/-- No zero divisors: a nonzero factor can be divided out. -/
theorem gmul_eq_zero_iff {a b : Byte} : gmul a b = 0x00#8 ↔ a = 0x00#8 ∨ b = 0x00#8 := by
  constructor
  · intro h
    refine or_iff_not_imp_left.2 fun ha => ?_
    calc b = gmul b (gmul a (ginv a)) := by rw [gmul_ginv ha, gmul_one]
      _ = gmul (gmul a b) (ginv a) := by rw [← gmul_assoc, gmul_comm b a]
      _ = 0x00#8 := by rw [h, zero_gmul]
  · rintro (rfl | rfl)
    · exact zero_gmul b
    · exact gmul_zero a

/-- Settles O46. -/
theorem gmulFieldLaws : Obligations.GmulFieldLaws :=
  ⟨gmul_two, gmul_comm, gmul_assoc, gmul_xor_right, gmul_one, fun _ _ => gmul_eq_zero_iff⟩

end Sys2Proof.Machine
end

section
/-! Encrypt undoes Decrypt: the inverse transforms from the other side (43_round_transforms.md, 44_block_cipher.md
section 3). -/

namespace Sys2Proof.Machine

theorem byteSub_invByteSub : Function.LeftInverse byteSub invByteSub :=
  Quad.map_leftInverse (Quad.map_leftInverse invSub_rightInverse_sub)

theorem rowShift_invRowShift : Function.LeftInverse rowShift invRowShift := fun _ => rfl

theorem mixMatrix_times_invMixMatrix : mixMatrix.map (rowTimes · invMixMatrix) = unitMatrix := by
  decide

theorem columnMix_invColumnMix : Function.LeftInverse columnMix invColumnMix :=
  Quad.map_leftInverse fun a => by
    rw [mulColumn_mulColumn, mixMatrix_times_invMixMatrix, mulColumn_unitMatrix]

/-- Settles O53. -/
theorem roundTransformsAreInvertible : Obligations.RoundTransformsAreInvertible := fun s k =>
  ⟨invByteSub_byteSub s, byteSub_invByteSub s, invRowShift_rowShift s, rowShift_invRowShift s,
    invColumnMix_columnMix s, columnMix_invColumnMix s, roundKeyAdd_roundKeyAdd s k⟩

theorem encryptRound_decryptRound (rk : Sched) (s : Block) (r : Fin 15) :
    encryptRound rk (decryptRound rk s r) r = s := by
  rw [encryptRound, decryptRound, byteSub_invByteSub, rowShift_invRowShift, columnMix_invColumnMix,
    roundKeyAdd_roundKeyAdd]

/-- The passes of Decrypt run backwards are those of Encrypt. -/
theorem encrypt_decrypt (rk : Sched) (c : Block) : encrypt rk (decrypt rk c) = c := by
  have hrounds (b : Block) :
      innerRounds.foldl (encryptRound rk) (innerRounds.reverse.foldl (decryptRound rk) b) = b := by
    simpa using foldl_reverse_foldl (encryptRound_decryptRound rk) innerRounds.reverse b
  rw [encrypt, decrypt, roundKeyAdd_roundKeyAdd, hrounds, byteSub_invByteSub, rowShift_invRowShift,
    roundKeyAdd_roundKeyAdd]

/-- Settles O56. -/
theorem decryptUndoesEncrypt : Obligations.DecryptUndoesEncrypt := fun rk p =>
  ⟨decrypt_encrypt rk p, encrypt_decrypt rk p⟩

end Sys2Proof.Machine
end

section
/-! Whole messages, one command a block (45_commands.md R276, R282). -/

namespace Sys2Proof.Machine

@[simp] theorem acceptedEffect_instrOf (op : InFlightOp) : acceptedEffect (instrOf op) = issue op := by
  cases op <;> rfl

/-- A command that passes its checks, and its completion right after. -/
theorem exec_then_complete {op : InFlightOp} {s : State} (hs : s.inflight = none)
    (hk : needsKey (instrOf op) = true → s.keyValid = true)
    (hc : needsCounter (instrOf op) = true → s.ctrExh = false) :
    ∃ t, exec (instrOf op) s = .next t ∧ complete t = finish (completeOp (snapshot op s) s) :=
  ⟨issue op s, by rw [exec_of_checks hs hk hc, acceptedEffect_instrOf], complete_issue op s⟩

theorem loadDin_eq (m : Block) (s : State) : loadDin m s = { s with din := m } := by
  simp [loadDin, setDinWord, Quad.set]

theorem mapIdx_eq_map {α β : Type} (g : α → β) (l : List α) : (l.mapIdx fun _ a => g a) = l.map g :=
  List.ext_getElem (by simp) (by simp)

/-- A message by its blocks: if before block `k` the state meets `P k`, and then the command outputs `g k m` for the
block `m` and leaves a state that meets `P (k + 1)`, then so it goes for the whole message. -/
theorem runBlocks_of_block {i : Instr} {P : Nat → State → Prop} {g : Nat → Block → Block} {n : Nat}
    (hblock : ∀ k m s, k < n → P k s →
      ∃ t, exec i (loadDin m s) = .next t ∧ (complete t).dout = g k m ∧ P (k + 1) (complete t))
    (ms : List Block) {k : Nat} {s : State} (hn : k + ms.length ≤ n) (hs : P k s) :
    ∃ u, runBlocks i ms s = .next (u, ms.mapIdx fun j m => g (k + j) m) ∧ P (k + ms.length) u := by
  induction ms generalizing k s with
  | nil => exact ⟨s, rfl, hs⟩
  | cons m ms ih =>
    rw [List.length_cons] at hn
    obtain ⟨t, ht, hdout, hnext⟩ := hblock k m s (by omega) hs
    obtain ⟨u, hu, hend⟩ := ih (by omega) hnext
    have hshift (j : Nat) : k + 1 + j = k + (j + 1) := by omega
    refine ⟨u, ?_, ?_⟩
    · simp only [runBlocks, ht, hu, hdout, List.mapIdx_cons, hshift, Nat.add_zero]
    · rwa [List.length_cons, ← hshift]

/-- Idle, with a valid key and these round keys. -/
structure KeyReady (rk : Sched) (s : State) : Prop where
  idle : s.inflight = none
  keyValid : s.keyValid = true
  rk_eq : s.rk = rk

/-- A command whose result for a block does not depend on its place computes the message block by block. -/
theorem runBlocks_of_keyReady {i : Instr} {rk : Sched} {g : Block → Block}
    (hblock : ∀ m s, KeyReady rk s →
      ∃ t, exec i (loadDin m s) = .next t ∧ (complete t).dout = g m ∧ KeyReady rk (complete t))
    (ms : List Block) {s : State} (hs : KeyReady rk s) :
    ∃ u, runBlocks i ms s = .next (u, ms.map g) ∧ KeyReady rk u := by
  rw [← mapIdx_eq_map]
  exact runBlocks_of_block (P := fun _ => KeyReady rk) (g := fun _ => g) (k := 0)
    (fun _ m s _ => hblock m s) ms le_rfl hs

theorem ecbEnc_block {rk : Sched} (m : Block) (s : State) (hs : KeyReady rk s) :
    ∃ t, exec .ecbEnc (loadDin m s) = .next t ∧ (complete t).dout = encrypt rk m ∧ KeyReady rk (complete t) := by
  obtain ⟨hidle, hk, rfl⟩ := hs
  rw [loadDin_eq]
  obtain ⟨t, ht, hc⟩ := exec_then_complete (op := .ecbEnc) (s := { s with din := m }) hidle (fun _ => hk) nofun
  exact ⟨t, ht, congrArg State.dout hc, hc ▸ ⟨rfl, hk, rfl⟩⟩

theorem ecbDec_block {rk : Sched} (m : Block) (s : State) (hs : KeyReady rk s) :
    ∃ t, exec .ecbDec (loadDin m s) = .next t ∧ (complete t).dout = decrypt rk m ∧ KeyReady rk (complete t) := by
  obtain ⟨hidle, hk, rfl⟩ := hs
  rw [loadDin_eq]
  obtain ⟨t, ht, hc⟩ := exec_then_complete (op := .ecbDec) (s := { s with din := m }) hidle (fun _ => hk) nofun
  exact ⟨t, ht, congrArg State.dout hc, hc ▸ ⟨rfl, hk, rfl⟩⟩

/-- 45_commands.md R271: after KEYEXP the machine is ready with the expansion of the key. -/
theorem keyexp_keyReady {s : State} (hs : s.inflight = none) :
    ∃ t, exec .keyexp s = .next t ∧ KeyReady (expand s.key) (complete t) := by
  obtain ⟨t, ht, hc⟩ := exec_then_complete (op := .keyexp) hs nofun nofun
  exact ⟨t, ht, hc ▸ ⟨rfl, rfl, rfl⟩⟩

/-- Settles O57: both messages block by block, and Decrypt undoes Encrypt on each block. -/
theorem ecbCommandsComputeMessage : Obligations.EcbCommandsComputeMessage := by
  intro s ms hs
  obtain ⟨t, ht, hready⟩ := keyexp_keyReady hs
  obtain ⟨u, hu, hready⟩ := runBlocks_of_keyReady ecbEnc_block ms hready
  obtain ⟨v, hv, -⟩ := runBlocks_of_keyReady ecbDec_block (ms.map (encrypt (expand s.key))) hready
  refine ⟨t, u, v, ht, hu, ?_⟩
  have hback : (ms.map (encrypt (expand s.key))).map (decrypt (expand s.key)) = ms := by
    rw [List.map_map]
    exact List.map_id'' (decrypt_encrypt _) ms
  rwa [hback] at hv

/-- 45_commands.md R282: below 2^64 the counter block of position `k` holds the number `c0 + k`. -/
theorem counterField_counterBlock {n : Block} {k : Nat} (h : (counterField n).toNat + k < 2 ^ 64) :
    (counterField (counterBlock n k)).toNat = (counterField n).toNat + k := by
  rw [counterBlock, counterField_withCounter, BitVec.toNat_add, BitVec.toNat_ofNat,
    Nat.mod_eq_of_lt (by omega : k < 2 ^ 64), Nat.mod_eq_of_lt h]

@[simp] theorem counterBlock_zero (n : Block) : counterBlock n 0 = n := by
  simp [counterBlock]

/-- Counting by one in place leads from one counter block to the next. -/
theorem withCounter_counterBlock (n : Block) (k : Nat) :
    withCounter (counterBlock n k) (counterField (counterBlock n k) + 1#64) = counterBlock n (k + 1) := by
  have hcount : counterField n + BitVec.ofNat 64 k + 1#64 = counterField n + BitVec.ofNat 64 (k + 1) := by
    rw [BitVec.ofNat_add, BitVec.add_assoc]
  rw [counterBlock, counterField_withCounter, hcount]
  rfl

/-- Before block `k` of a CTR message from the counter block `n`: ready, and while counters are left, not exhausted and
with the counter block of position `k` in CTR. -/
structure CtrReady (rk : Sched) (n : Block) (k : Nat) (s : State) : Prop where
  keyReady : KeyReady rk s
  counter : (counterField n).toNat + k < 2 ^ 64 → s.ctrExh = false ∧ s.ctr = counterBlock n k

theorem ctr_block {rk : Sched} {n : Block} {k : Nat} (m : Block) (s : State)
    (hroom : (counterField n).toNat + k < 2 ^ 64) (hs : CtrReady rk n k s) :
    ∃ t, exec .ctr (loadDin m s) = .next t ∧ (complete t).dout = blockXor m (encrypt rk (counterBlock n k)) ∧
      CtrReady rk n (k + 1) (complete t) := by
  obtain ⟨⟨hidle, hk, rfl⟩, hcounter⟩ := hs
  obtain ⟨hexh, hctr⟩ := hcounter hroom
  rw [loadDin_eq, ← hctr]
  obtain ⟨t, ht, hc⟩ :=
    exec_then_complete (op := .ctr) (s := { s with din := m }) hidle (fun _ => hk) (fun _ => hexh)
  refine ⟨t, ht, congrArg State.dout hc, hc ▸ ⟨⟨rfl, hk, rfl⟩, fun hnext => ?_⟩⟩
  have hlast : (counterField (counterBlock n k)).toNat ≠ 2 ^ 64 - 1 := by
    rw [counterField_counterBlock hroom]
    omega
  have hnot : counterExhausted (counterBlock n k) = false := Bool.eq_false_iff.2 (mt counterExhausted_iff.1 hlast)
  simp [completeOp, snapshot, hctr, hnot, hexh, withCounter_counterBlock]

/-- Settles O58, block by block from the counter block in CTR. -/
theorem ctrCommandsComputeMessage : Obligations.CtrCommandsComputeMessage := by
  intro s ms hs hk hrk hexh hroom
  have hready : CtrReady (expand s.key) s.ctr 0 s := ⟨⟨hs, hk, hrk⟩, fun _ => ⟨hexh, (counterBlock_zero _).symm⟩⟩
  obtain ⟨t, ht, -⟩ := runBlocks_of_block (n := ms.length)
    (fun k m u hlt => ctr_block (k := k) m u (by omega)) ms (by omega) hready
  simp only [Nat.zero_add] at ht
  exact ⟨t, ht⟩

/-- Settles O59: the same keystream block is added twice. -/
theorem ctrMessageIsItsOwnInverse : Obligations.CtrMessageIsItsOwnInverse := by
  intro key n ms
  have htwice (i : Nat) (m : Block) : blockXor (blockXor m (encrypt (expand key) (counterBlock n i)))
      (encrypt (expand key) (counterBlock n i)) = m := roundKeyAdd_roundKeyAdd m _
  rw [ctrMessage, ctrMessage, List.mapIdx_mapIdx]
  simp only [Function.comp_def, htwice]
  rw [mapIdx_eq_map, List.map_id']

end Sys2Proof.Machine
end
